-- ==== Sys2Proof/Word.lean ====
section
/-! DEFINITION. The two word types of the core (00_scope.md R4, R8). -/

namespace Sys2Proof

/-- A byte: the width of A, X, Y, S, P and of every bus access (R4, R8). -/
abbrev Byte := BitVec 8

/-- An address, and the program counter: 16 bits (R4, R8). -/
abbrev Addr := BitVec 16

end Sys2Proof
end

