-- ==== Sys2Proof/Config.lean ====
section
/-! DEFINITION. The named parameters the spec leaves to a model (00_scope.md R5, R6). They are held in State as
plain data that no step changes, so a statement about every state covers every value of them. The third parameter,
`Host` (R7), is the memory and the pending load answers of State. -/

namespace Sys2Proof

/-- `RESET_STACK_MODE` (00_scope.md R6; 92_eei_decisions.md D6). -/
inductive ResetStackMode where
  /-- The source's design and the default: `reset()` pushes like a hardware interrupt. -/
  | push
  /-- The alternative: `reset()` only lowers S by 3. -/
  | noWrite
deriving DecidableEq, Repr

/-- The parameters of one core. -/
structure Config where
  /-- `EXTRA_DUMMY_READS` (00_scope.md R5; 92_eei_decisions.md D2). -/
  extraDummyReads : Bool
  /-- `RESET_STACK_MODE` (00_scope.md R6). -/
  resetStackMode : ResetStackMode
deriving DecidableEq, Repr

/-- Both parameters at the default the spec gives them (R5: `false`; R6: `Push`). -/
def Config.default : Config := { extraDummyReads := false, resetStackMode := .push }

end Sys2Proof
end

