-- ==== Sys2Proof/Syntax.lean ====
section
/-! DEFINITION. The instructions: one constructor for each of the 151 mapped rows of spec/opcode_table.json and
one for its 105 UNMAPPED rows (30_encoding.md R93 to R95). The opcode byte alone fixes the instruction, its mode
and its length (R90), decoding reads only that byte, and the operand bytes are fetched by the addressing-mode
procedure while the instruction runs (R97; JSR fetches its last one after its pushes, R351). So a constructor
carries no operand. -/

namespace Sys2Proof

/-- The formats of 30_encoding.md R91: the "format" column of spec/opcode_table.json. -/
inductive Mode where
  /-- implied -/
  | imp
  /-- accumulator -/
  | acc
  /-- immediate -/
  | imm
  /-- zero page -/
  | zp
  /-- zero page,X -/
  | zpx
  /-- zero page,Y -/
  | zpy
  /-- absolute -/
  | abs
  /-- absolute,X -/
  | abx
  /-- absolute,Y -/
  | aby
  /-- (zp,X) -/
  | izx
  /-- (zp),Y -/
  | izy
  /-- relative -/
  | rel
  /-- absolute indirect -/
  | ind
deriving DecidableEq, Repr

/-- Operand bytes of a format, after the opcode (30_encoding.md R91). -/
def Mode.operandBytes : Mode → Nat
  | .imp => 0
  | .acc => 0
  | .imm => 1
  | .zp => 1
  | .zpx => 1
  | .zpy => 1
  | .abs => 2
  | .abx => 2
  | .aby => 2
  | .izx => 1
  | .izy => 1
  | .rel => 1
  | .ind => 2

/-- An instruction is a mnemonic with an addressing mode: one row of the opcode table (30_encoding.md R93, R94). -/
inductive Instr where
  -- ADC (R220)
  /-- ADC, immediate. -/
  | adcImm
  /-- ADC, zero page. -/
  | adcZp
  /-- ADC, zero page,X. -/
  | adcZpx
  /-- ADC, absolute. -/
  | adcAbs
  /-- ADC, absolute,X. -/
  | adcAbx
  /-- ADC, absolute,Y. -/
  | adcAby
  /-- ADC, (zp,X). -/
  | adcIzx
  /-- ADC, (zp),Y. -/
  | adcIzy
  -- SBC (R221)
  /-- SBC, immediate. -/
  | sbcImm
  /-- SBC, zero page. -/
  | sbcZp
  /-- SBC, zero page,X. -/
  | sbcZpx
  /-- SBC, absolute. -/
  | sbcAbs
  /-- SBC, absolute,X. -/
  | sbcAbx
  /-- SBC, absolute,Y. -/
  | sbcAby
  /-- SBC, (zp,X). -/
  | sbcIzx
  /-- SBC, (zp),Y. -/
  | sbcIzy
  -- AND (R222)
  /-- AND, immediate. -/
  | andImm
  /-- AND, zero page. -/
  | andZp
  /-- AND, zero page,X. -/
  | andZpx
  /-- AND, absolute. -/
  | andAbs
  /-- AND, absolute,X. -/
  | andAbx
  /-- AND, absolute,Y. -/
  | andAby
  /-- AND, (zp,X). -/
  | andIzx
  /-- AND, (zp),Y. -/
  | andIzy
  -- ORA (R223)
  /-- ORA, immediate. -/
  | oraImm
  /-- ORA, zero page. -/
  | oraZp
  /-- ORA, zero page,X. -/
  | oraZpx
  /-- ORA, absolute. -/
  | oraAbs
  /-- ORA, absolute,X. -/
  | oraAbx
  /-- ORA, absolute,Y. -/
  | oraAby
  /-- ORA, (zp,X). -/
  | oraIzx
  /-- ORA, (zp),Y. -/
  | oraIzy
  -- EOR (R224)
  /-- EOR, immediate. -/
  | eorImm
  /-- EOR, zero page. -/
  | eorZp
  /-- EOR, zero page,X. -/
  | eorZpx
  /-- EOR, absolute. -/
  | eorAbs
  /-- EOR, absolute,X. -/
  | eorAbx
  /-- EOR, absolute,Y. -/
  | eorAby
  /-- EOR, (zp,X). -/
  | eorIzx
  /-- EOR, (zp),Y. -/
  | eorIzy
  -- BIT (R225)
  /-- BIT, zero page. -/
  | bitZp
  /-- BIT, absolute. -/
  | bitAbs
  -- CMP (R226)
  /-- CMP, immediate. -/
  | cmpImm
  /-- CMP, zero page. -/
  | cmpZp
  /-- CMP, zero page,X. -/
  | cmpZpx
  /-- CMP, absolute. -/
  | cmpAbs
  /-- CMP, absolute,X. -/
  | cmpAbx
  /-- CMP, absolute,Y. -/
  | cmpAby
  /-- CMP, (zp,X). -/
  | cmpIzx
  /-- CMP, (zp),Y. -/
  | cmpIzy
  -- CPX (R227)
  /-- CPX, immediate. -/
  | cpxImm
  /-- CPX, zero page. -/
  | cpxZp
  /-- CPX, absolute. -/
  | cpxAbs
  -- CPY (R228)
  /-- CPY, immediate. -/
  | cpyImm
  /-- CPY, zero page. -/
  | cpyZp
  /-- CPY, absolute. -/
  | cpyAbs
  -- ASL (R260)
  /-- ASL, accumulator. -/
  | aslAcc
  /-- ASL, zero page. -/
  | aslZp
  /-- ASL, zero page,X. -/
  | aslZpx
  /-- ASL, absolute. -/
  | aslAbs
  /-- ASL, absolute,X. -/
  | aslAbx
  -- LSR (R261)
  /-- LSR, accumulator. -/
  | lsrAcc
  /-- LSR, zero page. -/
  | lsrZp
  /-- LSR, zero page,X. -/
  | lsrZpx
  /-- LSR, absolute. -/
  | lsrAbs
  /-- LSR, absolute,X. -/
  | lsrAbx
  -- ROL (R262)
  /-- ROL, accumulator. -/
  | rolAcc
  /-- ROL, zero page. -/
  | rolZp
  /-- ROL, zero page,X. -/
  | rolZpx
  /-- ROL, absolute. -/
  | rolAbs
  /-- ROL, absolute,X. -/
  | rolAbx
  -- ROR (R263)
  /-- ROR, accumulator. -/
  | rorAcc
  /-- ROR, zero page. -/
  | rorZp
  /-- ROR, zero page,X. -/
  | rorZpx
  /-- ROR, absolute. -/
  | rorAbs
  /-- ROR, absolute,X. -/
  | rorAbx
  -- INC (R264)
  /-- INC, zero page. -/
  | incZp
  /-- INC, zero page,X. -/
  | incZpx
  /-- INC, absolute. -/
  | incAbs
  /-- INC, absolute,X. -/
  | incAbx
  -- DEC (R265)
  /-- DEC, zero page. -/
  | decZp
  /-- DEC, zero page,X. -/
  | decZpx
  /-- DEC, absolute. -/
  | decAbs
  /-- DEC, absolute,X. -/
  | decAbx
  -- INX (R266)
  /-- INX, implied. -/
  | inx
  -- INY (R267)
  /-- INY, implied. -/
  | iny
  -- DEX (R268)
  /-- DEX, implied. -/
  | dex
  -- DEY (R269)
  /-- DEY, implied. -/
  | dey
  -- LDA (R290)
  /-- LDA, immediate. -/
  | ldaImm
  /-- LDA, zero page. -/
  | ldaZp
  /-- LDA, zero page,X. -/
  | ldaZpx
  /-- LDA, absolute. -/
  | ldaAbs
  /-- LDA, absolute,X. -/
  | ldaAbx
  /-- LDA, absolute,Y. -/
  | ldaAby
  /-- LDA, (zp,X). -/
  | ldaIzx
  /-- LDA, (zp),Y. -/
  | ldaIzy
  -- LDX (R291)
  /-- LDX, immediate. -/
  | ldxImm
  /-- LDX, zero page. -/
  | ldxZp
  /-- LDX, zero page,Y. -/
  | ldxZpy
  /-- LDX, absolute. -/
  | ldxAbs
  /-- LDX, absolute,Y. -/
  | ldxAby
  -- LDY (R292)
  /-- LDY, immediate. -/
  | ldyImm
  /-- LDY, zero page. -/
  | ldyZp
  /-- LDY, zero page,X. -/
  | ldyZpx
  /-- LDY, absolute. -/
  | ldyAbs
  /-- LDY, absolute,X. -/
  | ldyAbx
  -- STA (R293)
  /-- STA, zero page. -/
  | staZp
  /-- STA, zero page,X. -/
  | staZpx
  /-- STA, absolute. -/
  | staAbs
  /-- STA, absolute,X. -/
  | staAbx
  /-- STA, absolute,Y. -/
  | staAby
  /-- STA, (zp,X). -/
  | staIzx
  /-- STA, (zp),Y. -/
  | staIzy
  -- STX (R294)
  /-- STX, zero page. -/
  | stxZp
  /-- STX, zero page,Y. -/
  | stxZpy
  /-- STX, absolute. -/
  | stxAbs
  -- STY (R295)
  /-- STY, zero page. -/
  | styZp
  /-- STY, zero page,X. -/
  | styZpx
  /-- STY, absolute. -/
  | styAbs
  -- TAX (R296)
  /-- TAX, implied. -/
  | tax
  -- TAY (R297)
  /-- TAY, implied. -/
  | tay
  -- TSX (R298)
  /-- TSX, implied. -/
  | tsx
  -- TXA (R299)
  /-- TXA, implied. -/
  | txa
  -- TYA (R300)
  /-- TYA, implied. -/
  | tya
  -- TXS (R301)
  /-- TXS, implied. -/
  | txs
  -- PHA (R323)
  /-- PHA, implied. -/
  | pha
  -- PHP (R324)
  /-- PHP, implied. -/
  | php
  -- PLA (R325)
  /-- PLA, implied. -/
  | pla
  -- PLP (R326)
  /-- PLP, implied. -/
  | plp
  -- BCC (R341)
  /-- BCC, relative. -/
  | bcc
  -- BCS (R342)
  /-- BCS, relative. -/
  | bcs
  -- BEQ (R343)
  /-- BEQ, relative. -/
  | beq
  -- BNE (R344)
  /-- BNE, relative. -/
  | bne
  -- BMI (R345)
  /-- BMI, relative. -/
  | bmi
  -- BPL (R346)
  /-- BPL, relative. -/
  | bpl
  -- BVC (R347)
  /-- BVC, relative. -/
  | bvc
  -- BVS (R348)
  /-- BVS, relative. -/
  | bvs
  -- JMP (R349, R350)
  /-- JMP, absolute. -/
  | jmpAbs
  /-- JMP, absolute indirect. -/
  | jmpInd
  -- JSR (R351)
  /-- JSR, absolute. -/
  | jsr
  -- RTS (R352)
  /-- RTS, implied. -/
  | rts
  -- RTI (R353)
  /-- RTI, implied. -/
  | rti
  -- BRK (R354)
  /-- BRK, implied. -/
  | brk
  -- CLC (R370)
  /-- CLC, implied. -/
  | clc
  -- SEC (R371)
  /-- SEC, implied. -/
  | sec
  -- CLI (R372)
  /-- CLI, implied. -/
  | cli
  -- SEI (R373)
  /-- SEI, implied. -/
  | sei
  -- CLV (R374)
  /-- CLV, implied. -/
  | clv
  -- CLD (R375)
  /-- CLD, implied. -/
  | cld
  -- SED (R376)
  /-- SED, implied. -/
  | sed
  -- NOP (R377)
  /-- NOP, implied. -/
  | nop
  /-- One of the 105 unmapped opcodes, named by its byte (30_encoding.md R95; 40_dispatcher.md R126). -/
  | unmapped (opcode : Byte)
deriving DecidableEq, Repr

/-- The addressing mode of each instruction (30_encoding.md R94). -/
def Instr.mode : Instr → Mode
  | .adcImm => .imm
  | .adcZp => .zp
  | .adcZpx => .zpx
  | .adcAbs => .abs
  | .adcAbx => .abx
  | .adcAby => .aby
  | .adcIzx => .izx
  | .adcIzy => .izy
  | .sbcImm => .imm
  | .sbcZp => .zp
  | .sbcZpx => .zpx
  | .sbcAbs => .abs
  | .sbcAbx => .abx
  | .sbcAby => .aby
  | .sbcIzx => .izx
  | .sbcIzy => .izy
  | .andImm => .imm
  | .andZp => .zp
  | .andZpx => .zpx
  | .andAbs => .abs
  | .andAbx => .abx
  | .andAby => .aby
  | .andIzx => .izx
  | .andIzy => .izy
  | .oraImm => .imm
  | .oraZp => .zp
  | .oraZpx => .zpx
  | .oraAbs => .abs
  | .oraAbx => .abx
  | .oraAby => .aby
  | .oraIzx => .izx
  | .oraIzy => .izy
  | .eorImm => .imm
  | .eorZp => .zp
  | .eorZpx => .zpx
  | .eorAbs => .abs
  | .eorAbx => .abx
  | .eorAby => .aby
  | .eorIzx => .izx
  | .eorIzy => .izy
  | .bitZp => .zp
  | .bitAbs => .abs
  | .cmpImm => .imm
  | .cmpZp => .zp
  | .cmpZpx => .zpx
  | .cmpAbs => .abs
  | .cmpAbx => .abx
  | .cmpAby => .aby
  | .cmpIzx => .izx
  | .cmpIzy => .izy
  | .cpxImm => .imm
  | .cpxZp => .zp
  | .cpxAbs => .abs
  | .cpyImm => .imm
  | .cpyZp => .zp
  | .cpyAbs => .abs
  | .aslAcc => .acc
  | .aslZp => .zp
  | .aslZpx => .zpx
  | .aslAbs => .abs
  | .aslAbx => .abx
  | .lsrAcc => .acc
  | .lsrZp => .zp
  | .lsrZpx => .zpx
  | .lsrAbs => .abs
  | .lsrAbx => .abx
  | .rolAcc => .acc
  | .rolZp => .zp
  | .rolZpx => .zpx
  | .rolAbs => .abs
  | .rolAbx => .abx
  | .rorAcc => .acc
  | .rorZp => .zp
  | .rorZpx => .zpx
  | .rorAbs => .abs
  | .rorAbx => .abx
  | .incZp => .zp
  | .incZpx => .zpx
  | .incAbs => .abs
  | .incAbx => .abx
  | .decZp => .zp
  | .decZpx => .zpx
  | .decAbs => .abs
  | .decAbx => .abx
  | .inx => .imp
  | .iny => .imp
  | .dex => .imp
  | .dey => .imp
  | .ldaImm => .imm
  | .ldaZp => .zp
  | .ldaZpx => .zpx
  | .ldaAbs => .abs
  | .ldaAbx => .abx
  | .ldaAby => .aby
  | .ldaIzx => .izx
  | .ldaIzy => .izy
  | .ldxImm => .imm
  | .ldxZp => .zp
  | .ldxZpy => .zpy
  | .ldxAbs => .abs
  | .ldxAby => .aby
  | .ldyImm => .imm
  | .ldyZp => .zp
  | .ldyZpx => .zpx
  | .ldyAbs => .abs
  | .ldyAbx => .abx
  | .staZp => .zp
  | .staZpx => .zpx
  | .staAbs => .abs
  | .staAbx => .abx
  | .staAby => .aby
  | .staIzx => .izx
  | .staIzy => .izy
  | .stxZp => .zp
  | .stxZpy => .zpy
  | .stxAbs => .abs
  | .styZp => .zp
  | .styZpx => .zpx
  | .styAbs => .abs
  | .tax => .imp
  | .tay => .imp
  | .tsx => .imp
  | .txa => .imp
  | .tya => .imp
  | .txs => .imp
  | .pha => .imp
  | .php => .imp
  | .pla => .imp
  | .plp => .imp
  | .bcc => .rel
  | .bcs => .rel
  | .beq => .rel
  | .bne => .rel
  | .bmi => .rel
  | .bpl => .rel
  | .bvc => .rel
  | .bvs => .rel
  | .jmpAbs => .abs
  | .jmpInd => .ind
  | .jsr => .abs
  | .rts => .imp
  | .rti => .imp
  | .brk => .imp
  | .clc => .imp
  | .sec => .imp
  | .cli => .imp
  | .sei => .imp
  | .clv => .imp
  | .cld => .imp
  | .sed => .imp
  | .nop => .imp
  | .unmapped _ => .imp

/-- Length in bytes (30_encoding.md R96). BRK is 1 here and consumes one byte more when it runs (R354). -/
def Instr.length (i : Instr) : Nat := 1 + i.mode.operandBytes

end Sys2Proof
end

