-- ==== Sys2Proof/Decode.lean ====
section
/-! DEFINITION. Decoding and encoding (30_encoding.md). The decoder reads the opcode map of R94, laid out as the spec
lays it out: sixteen rows by high nibble, sixteen columns by low nibble, `none` where the spec has a dot. The
encoder is written from the "Encoding" line of each instruction's own rule, so the two are independent. -/

namespace Sys2Proof

/-- Row 0x of the opcode map of 30_encoding.md R94. -/
def opcodeRow0 : List (Option Instr) :=
  [some .brk, some .oraIzx, none, none, none, some .oraZp, some .aslZp, none,
   some .php, some .oraImm, some .aslAcc, none, none, some .oraAbs, some .aslAbs, none]

/-- Row 1x of the opcode map of 30_encoding.md R94. -/
def opcodeRow1 : List (Option Instr) :=
  [some .bpl, some .oraIzy, none, none, none, some .oraZpx, some .aslZpx, none,
   some .clc, some .oraAby, none, none, none, some .oraAbx, some .aslAbx, none]

/-- Row 2x of the opcode map of 30_encoding.md R94. -/
def opcodeRow2 : List (Option Instr) :=
  [some .jsr, some .andIzx, none, none, some .bitZp, some .andZp, some .rolZp, none,
   some .plp, some .andImm, some .rolAcc, none, some .bitAbs, some .andAbs, some .rolAbs, none]

/-- Row 3x of the opcode map of 30_encoding.md R94. -/
def opcodeRow3 : List (Option Instr) :=
  [some .bmi, some .andIzy, none, none, none, some .andZpx, some .rolZpx, none,
   some .sec, some .andAby, none, none, none, some .andAbx, some .rolAbx, none]

/-- Row 4x of the opcode map of 30_encoding.md R94. -/
def opcodeRow4 : List (Option Instr) :=
  [some .rti, some .eorIzx, none, none, none, some .eorZp, some .lsrZp, none,
   some .pha, some .eorImm, some .lsrAcc, none, some .jmpAbs, some .eorAbs, some .lsrAbs, none]

/-- Row 5x of the opcode map of 30_encoding.md R94. -/
def opcodeRow5 : List (Option Instr) :=
  [some .bvc, some .eorIzy, none, none, none, some .eorZpx, some .lsrZpx, none,
   some .cli, some .eorAby, none, none, none, some .eorAbx, some .lsrAbx, none]

/-- Row 6x of the opcode map of 30_encoding.md R94. -/
def opcodeRow6 : List (Option Instr) :=
  [some .rts, some .adcIzx, none, none, none, some .adcZp, some .rorZp, none,
   some .pla, some .adcImm, some .rorAcc, none, some .jmpInd, some .adcAbs, some .rorAbs, none]

/-- Row 7x of the opcode map of 30_encoding.md R94. -/
def opcodeRow7 : List (Option Instr) :=
  [some .bvs, some .adcIzy, none, none, none, some .adcZpx, some .rorZpx, none,
   some .sei, some .adcAby, none, none, none, some .adcAbx, some .rorAbx, none]

/-- Row 8x of the opcode map of 30_encoding.md R94. -/
def opcodeRow8 : List (Option Instr) :=
  [none, some .staIzx, none, none, some .styZp, some .staZp, some .stxZp, none,
   some .dey, none, some .txa, none, some .styAbs, some .staAbs, some .stxAbs, none]

/-- Row 9x of the opcode map of 30_encoding.md R94. -/
def opcodeRow9 : List (Option Instr) :=
  [some .bcc, some .staIzy, none, none, some .styZpx, some .staZpx, some .stxZpy, none,
   some .tya, some .staAby, some .txs, none, none, some .staAbx, none, none]

/-- Row Ax of the opcode map of 30_encoding.md R94. -/
def opcodeRowA : List (Option Instr) :=
  [some .ldyImm, some .ldaIzx, some .ldxImm, none, some .ldyZp, some .ldaZp, some .ldxZp, none,
   some .tay, some .ldaImm, some .tax, none, some .ldyAbs, some .ldaAbs, some .ldxAbs, none]

/-- Row Bx of the opcode map of 30_encoding.md R94. -/
def opcodeRowB : List (Option Instr) :=
  [some .bcs, some .ldaIzy, none, none, some .ldyZpx, some .ldaZpx, some .ldxZpy, none,
   some .clv, some .ldaAby, some .tsx, none, some .ldyAbx, some .ldaAbx, some .ldxAby, none]

/-- Row Cx of the opcode map of 30_encoding.md R94. -/
def opcodeRowC : List (Option Instr) :=
  [some .cpyImm, some .cmpIzx, none, none, some .cpyZp, some .cmpZp, some .decZp, none,
   some .iny, some .cmpImm, some .dex, none, some .cpyAbs, some .cmpAbs, some .decAbs, none]

/-- Row Dx of the opcode map of 30_encoding.md R94. -/
def opcodeRowD : List (Option Instr) :=
  [some .bne, some .cmpIzy, none, none, none, some .cmpZpx, some .decZpx, none,
   some .cld, some .cmpAby, none, none, none, some .cmpAbx, some .decAbx, none]

/-- Row Ex of the opcode map of 30_encoding.md R94. -/
def opcodeRowE : List (Option Instr) :=
  [some .cpxImm, some .sbcIzx, none, none, some .cpxZp, some .sbcZp, some .incZp, none,
   some .inx, some .sbcImm, some .nop, none, some .cpxAbs, some .sbcAbs, some .incAbs, none]

/-- Row Fx of the opcode map of 30_encoding.md R94. -/
def opcodeRowF : List (Option Instr) :=
  [some .beq, some .sbcIzy, none, none, none, some .sbcZpx, some .incZpx, none,
   some .sed, some .sbcAby, none, none, none, some .sbcAbx, some .incAbx, none]

/-- The opcode map of R94, its rows in order of the high nibble. -/
def opcodeMap : List (List (Option Instr)) :=
  [opcodeRow0, opcodeRow1, opcodeRow2, opcodeRow3, opcodeRow4, opcodeRow5, opcodeRow6, opcodeRow7] ++
  [opcodeRow8, opcodeRow9, opcodeRowA, opcodeRowB, opcodeRowC, opcodeRowD, opcodeRowE, opcodeRowF]

/-- The entry of the map for an opcode byte: `none` is unmapped (R93, R95). -/
def tableEntry (op : Byte) : Option Instr :=
  ((opcodeMap[op.toNat / 16]?.getD [])[op.toNat % 16]?).join

/-- Decoding is one lookup, total on every byte (R93); a byte without an entry is an unmapped opcode (R95). -/
def decodeOpcode (op : Byte) : Instr := (tableEntry op).getD (.unmapped op)

/-- Why a byte string holds no whole instruction. Only the static decoder below answers so: the running core
fetches each byte when it needs it (R97), and every fetch answers a byte (20_memory.md R70). -/
inductive DecodeError where
  /-- There is no opcode byte. -/
  | noOpcode
  /-- The opcode's format has more operand bytes than there are left (R91). -/
  | missingOperand (opcode : Byte)
deriving DecidableEq, Repr

/-- The static decoder: the first instruction of a byte string, its operand bytes in order, and the rest (R90, R91). -/
def decode : List Byte → Except DecodeError (Instr × List Byte × List Byte)
  | [] => .error .noOpcode
  | op :: rest =>
    if rest.length < (decodeOpcode op).mode.operandBytes then
      .error (.missingOperand op)
    else
      .ok (decodeOpcode op, rest.take (decodeOpcode op).mode.operandBytes,
        rest.drop (decodeOpcode op).mode.operandBytes)

/-- The opcode byte of an instruction, from the "Encoding" line of its rule (43 to 48), and for an unmapped opcode
the byte itself (R95). -/
def opcodeOf : Instr → Byte
  | .adcImm => 0x69
  | .adcZp => 0x65
  | .adcZpx => 0x75
  | .adcAbs => 0x6D
  | .adcAbx => 0x7D
  | .adcAby => 0x79
  | .adcIzx => 0x61
  | .adcIzy => 0x71
  | .sbcImm => 0xE9
  | .sbcZp => 0xE5
  | .sbcZpx => 0xF5
  | .sbcAbs => 0xED
  | .sbcAbx => 0xFD
  | .sbcAby => 0xF9
  | .sbcIzx => 0xE1
  | .sbcIzy => 0xF1
  | .andImm => 0x29
  | .andZp => 0x25
  | .andZpx => 0x35
  | .andAbs => 0x2D
  | .andAbx => 0x3D
  | .andAby => 0x39
  | .andIzx => 0x21
  | .andIzy => 0x31
  | .oraImm => 0x09
  | .oraZp => 0x05
  | .oraZpx => 0x15
  | .oraAbs => 0x0D
  | .oraAbx => 0x1D
  | .oraAby => 0x19
  | .oraIzx => 0x01
  | .oraIzy => 0x11
  | .eorImm => 0x49
  | .eorZp => 0x45
  | .eorZpx => 0x55
  | .eorAbs => 0x4D
  | .eorAbx => 0x5D
  | .eorAby => 0x59
  | .eorIzx => 0x41
  | .eorIzy => 0x51
  | .bitZp => 0x24
  | .bitAbs => 0x2C
  | .cmpImm => 0xC9
  | .cmpZp => 0xC5
  | .cmpZpx => 0xD5
  | .cmpAbs => 0xCD
  | .cmpAbx => 0xDD
  | .cmpAby => 0xD9
  | .cmpIzx => 0xC1
  | .cmpIzy => 0xD1
  | .cpxImm => 0xE0
  | .cpxZp => 0xE4
  | .cpxAbs => 0xEC
  | .cpyImm => 0xC0
  | .cpyZp => 0xC4
  | .cpyAbs => 0xCC
  | .aslAcc => 0x0A
  | .aslZp => 0x06
  | .aslZpx => 0x16
  | .aslAbs => 0x0E
  | .aslAbx => 0x1E
  | .lsrAcc => 0x4A
  | .lsrZp => 0x46
  | .lsrZpx => 0x56
  | .lsrAbs => 0x4E
  | .lsrAbx => 0x5E
  | .rolAcc => 0x2A
  | .rolZp => 0x26
  | .rolZpx => 0x36
  | .rolAbs => 0x2E
  | .rolAbx => 0x3E
  | .rorAcc => 0x6A
  | .rorZp => 0x66
  | .rorZpx => 0x76
  | .rorAbs => 0x6E
  | .rorAbx => 0x7E
  | .incZp => 0xE6
  | .incZpx => 0xF6
  | .incAbs => 0xEE
  | .incAbx => 0xFE
  | .decZp => 0xC6
  | .decZpx => 0xD6
  | .decAbs => 0xCE
  | .decAbx => 0xDE
  | .inx => 0xE8
  | .iny => 0xC8
  | .dex => 0xCA
  | .dey => 0x88
  | .ldaImm => 0xA9
  | .ldaZp => 0xA5
  | .ldaZpx => 0xB5
  | .ldaAbs => 0xAD
  | .ldaAbx => 0xBD
  | .ldaAby => 0xB9
  | .ldaIzx => 0xA1
  | .ldaIzy => 0xB1
  | .ldxImm => 0xA2
  | .ldxZp => 0xA6
  | .ldxZpy => 0xB6
  | .ldxAbs => 0xAE
  | .ldxAby => 0xBE
  | .ldyImm => 0xA0
  | .ldyZp => 0xA4
  | .ldyZpx => 0xB4
  | .ldyAbs => 0xAC
  | .ldyAbx => 0xBC
  | .staZp => 0x85
  | .staZpx => 0x95
  | .staAbs => 0x8D
  | .staAbx => 0x9D
  | .staAby => 0x99
  | .staIzx => 0x81
  | .staIzy => 0x91
  | .stxZp => 0x86
  | .stxZpy => 0x96
  | .stxAbs => 0x8E
  | .styZp => 0x84
  | .styZpx => 0x94
  | .styAbs => 0x8C
  | .tax => 0xAA
  | .tay => 0xA8
  | .tsx => 0xBA
  | .txa => 0x8A
  | .tya => 0x98
  | .txs => 0x9A
  | .pha => 0x48
  | .php => 0x08
  | .pla => 0x68
  | .plp => 0x28
  | .bcc => 0x90
  | .bcs => 0xB0
  | .beq => 0xF0
  | .bne => 0xD0
  | .bmi => 0x30
  | .bpl => 0x10
  | .bvc => 0x50
  | .bvs => 0x70
  | .jmpAbs => 0x4C
  | .jmpInd => 0x6C
  | .jsr => 0x20
  | .rts => 0x60
  | .rti => 0x40
  | .brk => 0x00
  | .clc => 0x18
  | .sec => 0x38
  | .cli => 0x58
  | .sei => 0x78
  | .clv => 0xB8
  | .cld => 0xD8
  | .sed => 0xF8
  | .nop => 0xEA
  | .unmapped op => op

/-- The bytes of an instruction with its operand bytes: opcode first, at the lowest address (R91). -/
def encode (i : Instr) (operands : List Byte) : List Byte := opcodeOf i :: operands

/-- The first three bytes of a number whose bit 0 is the first byte's: three is the longest instruction (R96). -/
def tableBytes (w : Nat) : List Byte :=
  [BitVec.ofNat 8 w, BitVec.ofNat 8 (w / 256), BitVec.ofNat 8 (w / 65536)]

/-- What the decoder reads from an instruction whose first `nbits` bits are those of `w` and whose further bits
are 0. Fewer than 8 bits are no opcode, and no instruction has more than 24. -/
def decodeTableWord (nbits w : Nat) : Option Instr :=
  if nbits < 8 || 24 < nbits then none
  else
    match decode (tableBytes (w % 2 ^ nbits)) with
    | .ok (i, _, _) => some i
    | .error _ => none

end Sys2Proof
end

