-- ==== Sys2Proof/Machine/State.lean ====
section
/-! DEFINITION. The state of the core as plain data, its power-on and reset values, and the reasons a step or a host
call can stop. -/

namespace Sys2Proof.Machine

/-- The registers an operation may have as its slot, or a mode as its index (42_operations.md R180). -/
inductive RegName where
  /-- accumulator (10_state.md R31) -/
  | A
  /-- index register (R32) -/
  | X
  /-- index register (R32) -/
  | Y
deriving DecidableEq, Repr

/-- The bits of the status register (10_state.md R35). -/
inductive Flag where
  /-- carry (R36) -/
  | C
  /-- zero (R37) -/
  | Z
  /-- interrupt disable (R38) -/
  | I
  /-- decimal (R39) -/
  | D
  /-- break (R40) -/
  | B
  /-- unused, always 1 (R41) -/
  | T
  /-- overflow (R42) -/
  | V
  /-- negative (R43) -/
  | N
deriving DecidableEq, Repr

/-- The closed set of fourteen operations (42_operations.md R180; 40_dispatcher.md R130). -/
inductive Operation where
  | adc
  | and
  | asl
  | bit
  | cmp
  | dec
  | eor
  | inc
  | ldx
  | lsr
  | ora
  | rol
  | ror
  | sbc
deriving DecidableEq, Repr

/-- The two interrupt lines (10_state.md R48). -/
inductive Line where
  | NMI
  | IRQ
deriving DecidableEq, Repr

/-- What the host observes (00_scope.md R13): one bus access, with its address and byte, or one report of an
unmapped opcode, with the opcode and its address (40_dispatcher.md R126). -/
inductive Event where
  /-- A `load`: every bus read, dummy or not (R11). -/
  | read (addr : Addr) (value : Byte)
  /-- A `store`: every bus write, dummy or not (R11). -/
  | write (addr : Addr) (value : Byte)
  /-- `Report(opcode, address)` (R12). -/
  | report (opcode : Byte) (addr : Addr)
deriving DecidableEq, Repr

/-- The bytes behind the bus, as (address, byte) pairs: addresses strictly rising and below 65,536, no byte 0x00,
since an unlisted address reads 0x00 (20_memory.md R62, R78; DESIGN CHOICE, log entry 2, unsafe). `Memory.wf` in
Ops.lean says so. -/
abbrev Memory := List Host.Cell

/-- The whole state at an instruction boundary (10_state.md R30, R48, R49, R52), with the parameters of the core and
what the host has seen and will answer. -/
structure State where
  /-- A, the accumulator (R31). -/
  a : Byte
  /-- X, index register (R32). -/
  x : Byte
  /-- Y, index register (R32). -/
  y : Byte
  /-- S, the stack pointer (R33). -/
  sp : Byte
  /-- P, the status register (R35). -/
  p : Byte
  /-- PC, the program counter (R34). -/
  pc : Addr
  /-- The NMI line (R48). -/
  nmi : Bool
  /-- The IRQ line (R48). -/
  irq : Bool
  /-- The halt request (R49). -/
  haltReq : Bool
  /-- The model's own: is the core inside `run()` (70_reset_and_hazards.md R450, R454; log entry 6)? -/
  running : Bool
  /-- The host's memory: the last byte stored at each address (20_memory.md R62, R78). -/
  mem : Memory
  /-- The model's own: what the host answers to the next loads, oldest first. `some b` answers b; `none`, and an
  empty list, answer the byte in `mem`. With arbitrary answers a load may return any byte (20_memory.md R70;
  93_implementation_defined.md U3; log entry 2). -/
  hostLoads : List (Option Byte)
  /-- The model's own: everything the host has observed, newest first (00_scope.md R13). -/
  log : List Event
  /-- The parameters of this core (00_scope.md R5, R6), which no step changes. -/
  config : Config
deriving DecidableEq, Repr

/-- The core raises no exception and a step never stops with a fault: "The core raises no synchronous exception"
(60_exceptions.md R400), so there is no reason to name. -/
inductive Fault where
deriving DecidableEq, Repr

/-- Why an instruction or a host call has no meaning. -/
inductive Refusal where
  /-- `exec` answers this for an instruction without a meaning yet; safe. No arm does at present. -/
  | notModelled (mnemonic : String)
  /-- The host calls `reset()` while `run()` is running, which is "outside the contract" (70_reset_and_hazards.md
  R450; 93_implementation_defined.md U9). Raised by `hostCall`, never by a step; safe. -/
  | resetDuringRun
  /-- The host calls `run()` while `run()` is running, to which the spec gives no meaning (log entry 8). Raised by
  `hostCall`, never by a step; safe. -/
  | runDuringRun
deriving DecidableEq, Repr

/-- The power-on state (10_state.md R51), with the parameters at their defaults and the flat RAM host of
20_memory.md R78, before any host call. -/
def State.powerOn : State where
  a := 0x00
  x := 0x00
  y := 0x00
  sp := 0xFF
  p := 0x34
  pc := 0x0000
  nmi := false
  irq := false
  haltReq := false
  running := false
  mem := []
  hostLoads := []
  log := []
  config := Config.default

/-- The state right after reset: power-on, then the boot sequence of 70_reset_and_hazards.md R456, that is the host's
`reset()` (R451, R453) and its `run()` (R454). The flat RAM host holds 0x00 everywhere, so the vector read gives
PC = 0x0000; the three pushes leave 0x24 at 0x01FD (R451). DESIGN CHOICE, log entry 1, unsafe. -/
def State.reset : State where
  a := 0x00
  x := 0x00
  y := 0x00
  sp := 0xFC
  p := 0x34
  pc := 0x0000
  nmi := false
  irq := false
  haltReq := false
  running := true
  mem := [(0x01FD, 0x24)]
  hostLoads := []
  log := [.read 0xFFFD 0x00, .read 0xFFFC 0x00, .write 0x01FD 0x24, .write 0x01FE 0x00, .write 0x01FF 0x00]
  config := Config.default

end Sys2Proof.Machine
end

