-- ==== Sys2Proof/Machine/Flags.lean ====
section
/-! DEFINITION. The status register and the fourteen operations with their flags (10_state.md section 2;
42_operations.md). Every operation is pure: (input byte, slot, A, P) gives (output byte, P'). -/

namespace Sys2Proof.Machine

/-- The bit of P a flag stands in (10_state.md R35). -/
def Flag.index : Flag → Nat
  | .C => 0
  | .Z => 1
  | .I => 2
  | .D => 3
  | .B => 4
  | .T => 5
  | .V => 6
  | .N => 7

/-- `P.f` (00_scope.md R10). -/
def getFlag (p : Byte) (f : Flag) : Bool := p.getLsbD f.index

/-- `P.f <- b`, every other bit unchanged (00_scope.md R10). -/
def setFlag (p : Byte) (f : Flag) (b : Bool) : Byte :=
  if b then p ||| (1#8 <<< f.index) else p &&& ~~~(1#8 <<< f.index)

/-- The byte BRK and PHP push: B and T forced to 1 (10_state.md R44). -/
def softwarePushedP (p : Byte) : Byte := p ||| 0x30

/-- The byte NMI, IRQ and RESET push: B forced to 0 and T to 1 (10_state.md R45). -/
def hardwarePushedP (p : Byte) : Byte := (p &&& 0xEF) ||| 0x20

/-- P after a pull of v: B forced to 0 and T to 1, every other bit from v (10_state.md R46). -/
def pulledP (v : Byte) : Byte := (v &&& 0xEF) ||| 0x20

/-- The flag half of `flags(r)`: N from bit 7 of the result, Z from whether it is zero (42_operations.md R181). -/
def flagsNZ (r p : Byte) : Byte := setFlag (setFlag p .N (r.getLsbD 7)) .Z (r == 0)

/-- ADC: binary (42_operations.md R182), or the no-op of decimal mode (R183). -/
def opAdc (v slot a p : Byte) : Byte × Byte :=
  if getFlag p .D then (slot, p)
  else
    let sum := a.toNat + v.toNat + (getFlag p .C).toNat
    let r := BitVec.ofNat 8 sum
    let pC := setFlag p .C (decide (255 < sum))
    let pV := setFlag pC .V (a.getLsbD 7 == v.getLsbD 7 && r.getLsbD 7 != a.getLsbD 7)
    (r, flagsNZ r pV)

/-- SBC: "ADC with the input's bits inverted" (42_operations.md R184). -/
def opSbc (v slot a p : Byte) : Byte × Byte := opAdc (~~~v) slot a p

/-- AND (42_operations.md R185). -/
def opAnd (v a p : Byte) : Byte × Byte := (a &&& v, flagsNZ (a &&& v) p)

/-- ORA (42_operations.md R186). -/
def opOra (v a p : Byte) : Byte × Byte := (a ||| v, flagsNZ (a ||| v) p)

/-- EOR (42_operations.md R187). -/
def opEor (v a p : Byte) : Byte × Byte := (a ^^^ v, flagsNZ (a ^^^ v) p)

/-- ASL (42_operations.md R188). -/
def opAsl (v p : Byte) : Byte × Byte :=
  let r := v <<< 1
  (r, flagsNZ r (setFlag p .C (v.getLsbD 7)))

/-- LSR (42_operations.md R189). -/
def opLsr (v p : Byte) : Byte × Byte :=
  let r := v >>> 1
  (r, flagsNZ r (setFlag p .C (v.getLsbD 0)))

/-- ROL: the old carry fills bit 0 (42_operations.md R190). -/
def opRol (v p : Byte) : Byte × Byte :=
  let r := v <<< 1 ||| (if getFlag p .C then 0x01 else 0x00)
  (r, flagsNZ r (setFlag p .C (v.getLsbD 7)))

/-- ROR: the old carry fills bit 7 (42_operations.md R191). -/
def opRor (v p : Byte) : Byte × Byte :=
  let r := v >>> 1 ||| (if getFlag p .C then 0x80 else 0x00)
  (r, flagsNZ r (setFlag p .C (v.getLsbD 0)))

/-- BIT: N and V from the input, Z from A & input, the slot unchanged (42_operations.md R192). -/
def opBit (v slot a p : Byte) : Byte × Byte :=
  (slot, setFlag (setFlag (setFlag p .N (v.getLsbD 7)) .V (v.getLsbD 6)) .Z (a &&& v == 0))

/-- CMP, also CPX and CPY: an unsigned comparison of the slot, which is unchanged (42_operations.md R193). -/
def opCmp (v slot p : Byte) : Byte × Byte :=
  (slot, flagsNZ (slot - v) (setFlag p .C (decide (v.toNat ≤ slot.toNat))))

/-- DEC (42_operations.md R194). -/
def opDec (v p : Byte) : Byte × Byte := (v - 1, flagsNZ (v - 1) p)

/-- INC (42_operations.md R195). -/
def opInc (v p : Byte) : Byte × Byte := (v + 1, flagsNZ (v + 1) p)

/-- LDx: output = input (42_operations.md R196). -/
def opLdx (v p : Byte) : Byte × Byte := (v, flagsNZ v p)

/-- `opr(v, slot, P) -> (out, P')`, with A read by the operations that read it (42_operations.md R180). -/
def Operation.apply (o : Operation) (v slot a p : Byte) : Byte × Byte :=
  match o with
  | .adc => opAdc v slot a p
  | .and => opAnd v a p
  | .asl => opAsl v p
  | .bit => opBit v slot a p
  | .cmp => opCmp v slot p
  | .dec => opDec v p
  | .eor => opEor v a p
  | .inc => opInc v p
  | .ldx => opLdx v p
  | .lsr => opLsr v p
  | .ora => opOra v a p
  | .rol => opRol v p
  | .ror => opRor v p
  | .sbc => opSbc v slot a p

end Sys2Proof.Machine
end

