-- ==== Sys2Proof/Machine/Ops.lean ====
section
/-! DEFINITION. The named operations over memory, the bus, the registers and the stack; taking an interrupt and
returning from one; what a boundary does before the opcode fetch. -/

namespace Sys2Proof.Machine

/-- `cat(h, l)` (00_scope.md R9). -/
def cat (h l : Byte) : Addr := h ++ l

/-- `zext16(b)` (00_scope.md R9). -/
def zext16 (b : Byte) : Addr := b.setWidth 16

/-- `sext16(b)` (00_scope.md R9). -/
def sext16 (b : Byte) : Addr := b.signExtend 16

/-- `v[15:8]` (00_scope.md R8). -/
def hiByte (v : Addr) : Byte := v.extractLsb' 8 8

/-- `v[7:0]` (00_scope.md R8). -/
def loByte (v : Addr) : Byte := v.extractLsb' 0 8

/-- The stack address `0x0100 | S`, that is `cat(0x01, S)` (10_state.md R33; 20_memory.md R64). -/
def stackAddr (sp : Byte) : Addr := cat 0x01 sp

/-- The entries of a memory stand in strictly rising order from `lo` up, below 65,536, and none holds 0x00. -/
def Memory.wfFrom : Nat → Memory → Bool
  | _, [] => true
  | lo, (k, v) :: m => decide (lo ≤ k) && decide (k < 65536) && v != 0 && Memory.wfFrom (k + 1) m

/-- The canonical form of a memory: equal memories are equal lists. -/
def Memory.wf (m : Memory) : Bool := Memory.wfFrom 0 m

/-- The byte at a key; an unlisted key reads 0x00 (20_memory.md R78; DESIGN CHOICE, log entry 2, unsafe). -/
def Memory.get : Memory → Nat → Byte
  | [], _ => 0
  | (k, v) :: m, a => if a = k then v else Memory.get m a

/-- Store a byte at a key, keeping the canonical form. -/
def Memory.set : Memory → Nat → Byte → Memory
  | [], a, v => if v = 0 then [] else [(a, v)]
  | (k, w) :: m, a, v =>
    if a < k then (if v = 0 then (k, w) :: m else (a, v) :: (k, w) :: m)
    else if a = k then (if v = 0 then m else (a, v) :: m)
    else (k, w) :: Memory.set m a v

/-- The byte stored at an address (20_memory.md R62). -/
def Memory.read (m : Memory) (a : Addr) : Byte := Memory.get m a.toNat

/-- Memory after a store (20_memory.md R62). -/
def Memory.write (m : Memory) (a : Addr) (v : Byte) : Memory := Memory.set m a.toNat v

/-- The value of a named register (00_scope.md R10). -/
def State.getReg (s : State) : RegName → Byte
  | .A => s.a
  | .X => s.x
  | .Y => s.y

/-- `R <- v` (00_scope.md R10). -/
def State.setReg (s : State) (r : RegName) (v : Byte) : State :=
  match r with
  | .A => { s with a := v }
  | .X => { s with x := v }
  | .Y => { s with y := v }

/-- The byte the host answers to a load at `a` now: its next answer, or else the byte in memory (20_memory.md R60,
R70, R78; log entry 2). -/
def State.loadByte (s : State) (a : Addr) : Byte :=
  match s.hostLoads with
  | some b :: _ => b
  | _ => s.mem.read a

/-- `Rd(a)`: one bus read (00_scope.md R11). -/
def busRead (a : Addr) (s : State) : Byte × State :=
  (s.loadByte a, { s with hostLoads := s.hostLoads.tail, log := .read a (s.loadByte a) :: s.log })

/-- A bus read whose result is discarded (00_scope.md R11). -/
def dummyRead (a : Addr) (s : State) : State := (busRead a s).2

/-- `Wr(a, v)`: one bus write (00_scope.md R11). -/
def busWrite (a : Addr) (v : Byte) (s : State) : State :=
  { s with mem := s.mem.write a v, log := .write a v :: s.log }

/-- `Fetch()`: a bus read at PC, then PC += 1, modulo 2^16 (40_dispatcher.md R128; 10_state.md R34). -/
def fetch (s : State) : Byte × State :=
  let r := busRead s.pc s
  (r.1, { r.2 with pc := s.pc + 1 })

/-- A dummy read that is issued only with `EXTRA_DUMMY_READS` (00_scope.md R5). -/
def extraRead (a : Addr) (s : State) : State :=
  if s.config.extraDummyReads then dummyRead a s else s

/-- `Implied()` (41_addressing_modes.md R166). -/
def implied (s : State) : State := extraRead s.pc s

/-- `Push(v)` (46_stack_unit.md R320). -/
def push (v : Byte) (s : State) : State :=
  { busWrite (stackAddr s.sp) v s with sp := s.sp - 1 }

/-- `Pull()` (46_stack_unit.md R321). -/
def pull (s : State) : Byte × State :=
  busRead (stackAddr (s.sp + 1)) { s with sp := s.sp + 1 }

/-- `Report(opcode, address)` (00_scope.md R12; 40_dispatcher.md R126). -/
def report (op : Byte) (a : Addr) (s : State) : State := { s with log := .report op a :: s.log }

/-- The two ways P is pushed (10_state.md R44, R45). -/
inductive EntryPath where
  /-- NMI, IRQ and RESET (R45). -/
  | hardware
  /-- BRK (R44). -/
  | software
deriving DecidableEq, Repr

/-- The byte of P an entry pushes (60_exceptions.md R408). -/
def pushedP (path : EntryPath) (p : Byte) : Byte :=
  match path with
  | .hardware => hardwarePushedP p
  | .software => softwarePushedP p

/-- Set I and load PC from a little-endian vector: the end of every entry (60_exceptions.md R408). -/
def loadVector (vec : Addr) (s : State) : State :=
  let lo := busRead vec { s with p := setFlag s.p .I true }
  let hi := busRead (vec + 1) lo.2
  { hi.2 with pc := cat hi.1 lo.1 }

/-- The two dummy reads of the hardware path under `EXTRA_DUMMY_READS` (60_exceptions.md R408). -/
def entryDummyReads (path : EntryPath) (s : State) : State :=
  match path with
  | .hardware => extraRead s.pc (extraRead s.pc s)
  | .software => s

/-- Taking an interrupt, the one procedure of every entry (60_exceptions.md R408, R411). -/
def interruptEntry (vec : Addr) (path : EntryPath) (s : State) : State :=
  let s0 := entryDummyReads path s
  let s1 := push (hiByte s0.pc) s0
  let s2 := push (loByte s1.pc) s1
  let s3 := push (pushedP path s2.p) s2
  loadVector vec s3

/-- The return from an interrupt: pull P with its forcing, then PC, low byte first (47_control_transfer.md R353;
60_exceptions.md R414). -/
def returnFromInterrupt (s : State) : State :=
  let p := pull s
  let lo := pull { p.2 with p := pulledP p.1 }
  let hi := pull lo.2
  { hi.2 with pc := cat hi.1 lo.1 }

/-- The vector of NMI (20_memory.md R65). -/
def nmiVector : Addr := 0xFFFA

/-- The vector of RESET (20_memory.md R65). -/
def resetVector : Addr := 0xFFFC

/-- The vector of IRQ and BRK (20_memory.md R65). -/
def irqVector : Addr := 0xFFFE

/-- The interrupt poll of a boundary: at most one entry, NMI first, IRQ only with I = 0, and the serviced line is
cleared after the entry (40_dispatcher.md R120, R122, R123; 60_exceptions.md R406, R407). -/
def pollInterrupts (s : State) : State :=
  if s.nmi then { interruptEntry nmiVector .hardware s with nmi := false }
  else if !getFlag s.p .I && s.irq then { interruptEntry irqVector .hardware s with irq := false }
  else s

/-- The iteration that finds a halt request: it clears it and `run()` returns, with no access and no poll
(40_dispatcher.md R121; 70_reset_and_hazards.md R454, R455). -/
def stopRun (s : State) : State := { s with haltReq := false, running := false }

/-- One of the three pushes of `reset()` in `NoWrite` mode: S is lowered, and a read stands in place of the write
under `EXTRA_DUMMY_READS` (70_reset_and_hazards.md R452). -/
def lowerStack (s : State) : State :=
  { extraRead (stackAddr s.sp) s with sp := s.sp - 1 }

/-- The sequence of `reset()` (70_reset_and_hazards.md R451 in `Push` mode, R452 in `NoWrite` mode). -/
def resetSequence (s : State) : State :=
  match s.config.resetStackMode with
  | .push => interruptEntry resetVector .hardware s
  | .noWrite =>
    loadVector resetVector (lowerStack (lowerStack (lowerStack (entryDummyReads .hardware s))))

/-- `s` with the three bytes of an instruction at the address the next opcode is fetched from, and nothing in the way
of that fetch: inside `run()`, no halt request, no interrupt that this boundary would take, and the flat RAM host
answering (log entry 12). -/
def placeInstruction (bytes : List Byte) (s : State) : State :=
  { s with
    mem := ((s.mem.write s.pc (bytes.getD 0 0)).write (s.pc + 1) (bytes.getD 1 0)).write (s.pc + 2) (bytes.getD 2 0)
    running := true
    haltReq := false
    nmi := false
    irq := s.irq && getFlag s.p .I
    hostLoads := [] }

end Sys2Proof.Machine
end

