-- ==== Sys2Proof/Machine/Operands.lean ====
section
/-! DEFINITION. The addressing-mode engine (41_addressing_modes.md): the effective address of each mode with its bus
accesses, then the read, write and modify procedures. Each runs with the opcode fetched and PC at the byte after it
(40_dispatcher.md R125). -/

namespace Sys2Proof.Machine

/-- The three access kinds (41_addressing_modes.md R140). -/
inductive AccessKind where
  | read
  | write
  | modify
deriving DecidableEq, Repr

/-! ### Effective addresses -/

/-- Zero page (41_addressing_modes.md R142). -/
def eaZp (s : State) : Addr × State :=
  let z := fetch s
  (zext16 z.1, z.2)

/-- Zero page,indexed: a dummy read at the unindexed address, and the index wraps in the zero page (R145). -/
def eaZpIndexed (idx : RegName) (s : State) : Addr × State :=
  let b := fetch s
  let s1 := dummyRead (zext16 b.1) b.2
  (zext16 (b.1 + s1.getReg idx), s1)

/-- Absolute: low byte, then high byte (R149). -/
def eaAbs (s : State) : Addr × State :=
  let lo := fetch s
  let hi := fetch lo.2
  (cat hi.1 lo.1, hi.2)

/-- The indexed address from a base's two bytes: the dummy read at the wrong-page address is issued on a page cross,
and always for write and modify (R153). -/
def eaIndexed (lo hi idx : Byte) (kind : AccessKind) (s : State) : Addr × State :=
  let sum := lo.toNat + idx.toNat
  let w := cat hi (BitVec.ofNat 8 sum)
  let ea := if 255 < sum then w + 0x0100 else w
  (ea, if 255 < sum ∨ kind ≠ .read then dummyRead w s else s)

/-- Absolute,indexed (R153 to R156). -/
def eaAbsIndexed (idx : RegName) (kind : AccessKind) (s : State) : Addr × State :=
  let lo := fetch s
  let hi := fetch lo.2
  eaIndexed lo.1 hi.1 (hi.2.getReg idx) kind hi.2

/-- (zp,X): a dummy read at the unindexed pointer, and both the index and the pointer wrap in the zero page (R157). -/
def eaIzx (s : State) : Addr × State :=
  let p := fetch s
  let s1 := dummyRead (zext16 p.1) p.2
  let q := p.1 + s1.x
  let lo := busRead (zext16 q) s1
  let hi := busRead (zext16 (q + 1)) lo.2
  (cat hi.1 lo.1, hi.2)

/-- (zp),Y: the pointer wraps in the zero page (decision D4), then Y is added as in absolute,indexed (R160). -/
def eaIzy (kind : AccessKind) (s : State) : Addr × State :=
  let p := fetch s
  let lo := busRead (zext16 p.1) p.2
  let hi := busRead (zext16 (p.1 + 1)) lo.2
  eaIndexed lo.1 hi.1 hi.2.y kind hi.2

/-- Absolute indirect: the pointer's low byte is incremented without a carry into its high byte (R165). -/
def eaInd (s : State) : Addr × State :=
  let lo := fetch s
  let hi := fetch lo.2
  let tl := busRead (cat hi.1 lo.1) hi.2
  let th := busRead (cat hi.1 (lo.1 + 1)) tl.2
  (cat th.1 tl.1, th.2)

/-! ### Applying an operation -/

/-- `Apply(opr, v, slot)` (R167). -/
def applyOp (opr : Operation) (v : Byte) (slot : RegName) (s : State) : State :=
  let r := opr.apply v (s.getReg slot) s.a s.p
  { s.setReg slot r.1 with p := r.2 }

/-- The end of every read procedure but immediate: read at the effective address and apply (R142). -/
def readAt (opr : Operation) (slot : RegName) (e : Addr × State) : State :=
  let v := busRead e.1 e.2
  applyOp opr v.1 slot v.2

/-- The end of every write procedure: store the register at the effective address (R143). -/
def writeAt (r : RegName) (e : Addr × State) : State := busWrite e.1 (e.2.getReg r) e.2

/-- `ModifyAt(opr, ea)`: read, dummy write of the same byte, operation, write of the result (R144). -/
def modifyAt (opr : Operation) (e : Addr × State) : State :=
  let v := busRead e.1 e.2
  let s1 := busWrite e.1 v.1 v.2
  let r := opr.apply v.1 v.1 s1.a s1.p
  busWrite e.1 r.1 { s1 with p := r.2 }

/-! ### Read procedures -/

/-- R141. -/
def immRead (opr : Operation) (slot : RegName) (s : State) : State :=
  let v := fetch s
  applyOp opr v.1 slot v.2

/-- R142. -/
def zpRead (opr : Operation) (slot : RegName) (s : State) : State := readAt opr slot (eaZp s)

/-- R146. -/
def zpIdxRead (idx : RegName) (opr : Operation) (slot : RegName) (s : State) : State :=
  readAt opr slot (eaZpIndexed idx s)

/-- R150. -/
def absRead (opr : Operation) (slot : RegName) (s : State) : State := readAt opr slot (eaAbs s)

/-- R154. -/
def absIdxRead (idx : RegName) (opr : Operation) (slot : RegName) (s : State) : State :=
  readAt opr slot (eaAbsIndexed idx .read s)

/-- R158. -/
def izxRead (opr : Operation) (slot : RegName) (s : State) : State := readAt opr slot (eaIzx s)

/-- R161. -/
def izyRead (opr : Operation) (slot : RegName) (s : State) : State := readAt opr slot (eaIzy .read s)

/-! ### Write procedures -/

/-- R143. -/
def zpWrite (r : RegName) (s : State) : State := writeAt r (eaZp s)

/-- R147. -/
def zpIdxWrite (idx r : RegName) (s : State) : State := writeAt r (eaZpIndexed idx s)

/-- R151. -/
def absWrite (r : RegName) (s : State) : State := writeAt r (eaAbs s)

/-- R155. -/
def absIdxWrite (idx r : RegName) (s : State) : State := writeAt r (eaAbsIndexed idx .write s)

/-- R159. -/
def izxWrite (r : RegName) (s : State) : State := writeAt r (eaIzx s)

/-- R162. -/
def izyWrite (r : RegName) (s : State) : State := writeAt r (eaIzy .write s)

/-! ### Modify procedures -/

/-- Accumulator: no bus access beyond the opcode fetch (R163). -/
def accModify (opr : Operation) (s : State) : State := applyOp opr s.a .A s

/-- R144. -/
def zpModify (opr : Operation) (s : State) : State := modifyAt opr (eaZp s)

/-- R148. -/
def zpIdxModify (idx : RegName) (opr : Operation) (s : State) : State := modifyAt opr (eaZpIndexed idx s)

/-- R152. -/
def absModify (opr : Operation) (s : State) : State := modifyAt opr (eaAbs s)

/-- R156. -/
def absIdxModify (idx : RegName) (opr : Operation) (s : State) : State :=
  modifyAt opr (eaAbsIndexed idx .modify s)

/-! ### Relative -/

/-- `Branch(cond)`: with the condition true, a dummy read at the wrong-page address on a page cross, one at PC, then
the transfer (R164; addresses of the dummy reads: decision D3). -/
def branch (cond : Bool) (s : State) : State :=
  let off := fetch s
  if cond then
    let here := off.2.pc
    let target := here + sext16 off.1
    let wrong := cat (hiByte here) (loByte here + off.1)
    let s1 := if hiByte target ≠ hiByte here then dummyRead wrong off.2 else off.2
    { dummyRead here s1 with pc := target }
  else off.2

end Sys2Proof.Machine
end

