-- ==== Sys2Proof/Machine/Alu.lean ====
section
/-! DEFINITION. Arithmetic, logical, bit-test and compare instructions (43_alu_instructions.md): each is one operation
over one read procedure. -/

namespace Sys2Proof.Machine

/-- ADC, opcode 69, IMM (R220). -/
def execAdcImm (s : State) : Host.Outcome State Fault Refusal :=
  .next (immRead .adc .A s)

/-- ADC, opcode 65, ZP (R220). -/
def execAdcZp (s : State) : Host.Outcome State Fault Refusal :=
  .next (zpRead .adc .A s)

/-- ADC, opcode 75, ZPX (R220). -/
def execAdcZpx (s : State) : Host.Outcome State Fault Refusal :=
  .next (zpIdxRead .X .adc .A s)

/-- ADC, opcode 6D, ABS (R220). -/
def execAdcAbs (s : State) : Host.Outcome State Fault Refusal :=
  .next (absRead .adc .A s)

/-- ADC, opcode 7D, ABX (R220). -/
def execAdcAbx (s : State) : Host.Outcome State Fault Refusal :=
  .next (absIdxRead .X .adc .A s)

/-- ADC, opcode 79, ABY (R220). -/
def execAdcAby (s : State) : Host.Outcome State Fault Refusal :=
  .next (absIdxRead .Y .adc .A s)

/-- ADC, opcode 61, IZX (R220). -/
def execAdcIzx (s : State) : Host.Outcome State Fault Refusal :=
  .next (izxRead .adc .A s)

/-- ADC, opcode 71, IZY (R220). -/
def execAdcIzy (s : State) : Host.Outcome State Fault Refusal :=
  .next (izyRead .adc .A s)

/-- SBC, opcode E9, IMM (R221). -/
def execSbcImm (s : State) : Host.Outcome State Fault Refusal :=
  .next (immRead .sbc .A s)

/-- SBC, opcode E5, ZP (R221). -/
def execSbcZp (s : State) : Host.Outcome State Fault Refusal :=
  .next (zpRead .sbc .A s)

/-- SBC, opcode F5, ZPX (R221). -/
def execSbcZpx (s : State) : Host.Outcome State Fault Refusal :=
  .next (zpIdxRead .X .sbc .A s)

/-- SBC, opcode ED, ABS (R221). -/
def execSbcAbs (s : State) : Host.Outcome State Fault Refusal :=
  .next (absRead .sbc .A s)

/-- SBC, opcode FD, ABX (R221). -/
def execSbcAbx (s : State) : Host.Outcome State Fault Refusal :=
  .next (absIdxRead .X .sbc .A s)

/-- SBC, opcode F9, ABY (R221). -/
def execSbcAby (s : State) : Host.Outcome State Fault Refusal :=
  .next (absIdxRead .Y .sbc .A s)

/-- SBC, opcode E1, IZX (R221). -/
def execSbcIzx (s : State) : Host.Outcome State Fault Refusal :=
  .next (izxRead .sbc .A s)

/-- SBC, opcode F1, IZY (R221). -/
def execSbcIzy (s : State) : Host.Outcome State Fault Refusal :=
  .next (izyRead .sbc .A s)

/-- AND, opcode 29, IMM (R222). -/
def execAndImm (s : State) : Host.Outcome State Fault Refusal :=
  .next (immRead .and .A s)

/-- AND, opcode 25, ZP (R222). -/
def execAndZp (s : State) : Host.Outcome State Fault Refusal :=
  .next (zpRead .and .A s)

/-- AND, opcode 35, ZPX (R222). -/
def execAndZpx (s : State) : Host.Outcome State Fault Refusal :=
  .next (zpIdxRead .X .and .A s)

/-- AND, opcode 2D, ABS (R222). -/
def execAndAbs (s : State) : Host.Outcome State Fault Refusal :=
  .next (absRead .and .A s)

/-- AND, opcode 3D, ABX (R222). -/
def execAndAbx (s : State) : Host.Outcome State Fault Refusal :=
  .next (absIdxRead .X .and .A s)

/-- AND, opcode 39, ABY (R222). -/
def execAndAby (s : State) : Host.Outcome State Fault Refusal :=
  .next (absIdxRead .Y .and .A s)

/-- AND, opcode 21, IZX (R222). -/
def execAndIzx (s : State) : Host.Outcome State Fault Refusal :=
  .next (izxRead .and .A s)

/-- AND, opcode 31, IZY (R222). -/
def execAndIzy (s : State) : Host.Outcome State Fault Refusal :=
  .next (izyRead .and .A s)

/-- ORA, opcode 09, IMM (R223). -/
def execOraImm (s : State) : Host.Outcome State Fault Refusal :=
  .next (immRead .ora .A s)

/-- ORA, opcode 05, ZP (R223). -/
def execOraZp (s : State) : Host.Outcome State Fault Refusal :=
  .next (zpRead .ora .A s)

/-- ORA, opcode 15, ZPX (R223). -/
def execOraZpx (s : State) : Host.Outcome State Fault Refusal :=
  .next (zpIdxRead .X .ora .A s)

/-- ORA, opcode 0D, ABS (R223). -/
def execOraAbs (s : State) : Host.Outcome State Fault Refusal :=
  .next (absRead .ora .A s)

/-- ORA, opcode 1D, ABX (R223). -/
def execOraAbx (s : State) : Host.Outcome State Fault Refusal :=
  .next (absIdxRead .X .ora .A s)

/-- ORA, opcode 19, ABY (R223). -/
def execOraAby (s : State) : Host.Outcome State Fault Refusal :=
  .next (absIdxRead .Y .ora .A s)

/-- ORA, opcode 01, IZX (R223). -/
def execOraIzx (s : State) : Host.Outcome State Fault Refusal :=
  .next (izxRead .ora .A s)

/-- ORA, opcode 11, IZY (R223). -/
def execOraIzy (s : State) : Host.Outcome State Fault Refusal :=
  .next (izyRead .ora .A s)

/-- EOR, opcode 49, IMM (R224). -/
def execEorImm (s : State) : Host.Outcome State Fault Refusal :=
  .next (immRead .eor .A s)

/-- EOR, opcode 45, ZP (R224). -/
def execEorZp (s : State) : Host.Outcome State Fault Refusal :=
  .next (zpRead .eor .A s)

/-- EOR, opcode 55, ZPX (R224). -/
def execEorZpx (s : State) : Host.Outcome State Fault Refusal :=
  .next (zpIdxRead .X .eor .A s)

/-- EOR, opcode 4D, ABS (R224). -/
def execEorAbs (s : State) : Host.Outcome State Fault Refusal :=
  .next (absRead .eor .A s)

/-- EOR, opcode 5D, ABX (R224). -/
def execEorAbx (s : State) : Host.Outcome State Fault Refusal :=
  .next (absIdxRead .X .eor .A s)

/-- EOR, opcode 59, ABY (R224). -/
def execEorAby (s : State) : Host.Outcome State Fault Refusal :=
  .next (absIdxRead .Y .eor .A s)

/-- EOR, opcode 41, IZX (R224). -/
def execEorIzx (s : State) : Host.Outcome State Fault Refusal :=
  .next (izxRead .eor .A s)

/-- EOR, opcode 51, IZY (R224). -/
def execEorIzy (s : State) : Host.Outcome State Fault Refusal :=
  .next (izyRead .eor .A s)

/-- BIT, opcode 24, ZP (R225). -/
def execBitZp (s : State) : Host.Outcome State Fault Refusal :=
  .next (zpRead .bit .A s)

/-- BIT, opcode 2C, ABS (R225). -/
def execBitAbs (s : State) : Host.Outcome State Fault Refusal :=
  .next (absRead .bit .A s)

/-- CMP, opcode C9, IMM (R226). -/
def execCmpImm (s : State) : Host.Outcome State Fault Refusal :=
  .next (immRead .cmp .A s)

/-- CMP, opcode C5, ZP (R226). -/
def execCmpZp (s : State) : Host.Outcome State Fault Refusal :=
  .next (zpRead .cmp .A s)

/-- CMP, opcode D5, ZPX (R226). -/
def execCmpZpx (s : State) : Host.Outcome State Fault Refusal :=
  .next (zpIdxRead .X .cmp .A s)

/-- CMP, opcode CD, ABS (R226). -/
def execCmpAbs (s : State) : Host.Outcome State Fault Refusal :=
  .next (absRead .cmp .A s)

/-- CMP, opcode DD, ABX (R226). -/
def execCmpAbx (s : State) : Host.Outcome State Fault Refusal :=
  .next (absIdxRead .X .cmp .A s)

/-- CMP, opcode D9, ABY (R226). -/
def execCmpAby (s : State) : Host.Outcome State Fault Refusal :=
  .next (absIdxRead .Y .cmp .A s)

/-- CMP, opcode C1, IZX (R226). -/
def execCmpIzx (s : State) : Host.Outcome State Fault Refusal :=
  .next (izxRead .cmp .A s)

/-- CMP, opcode D1, IZY (R226). -/
def execCmpIzy (s : State) : Host.Outcome State Fault Refusal :=
  .next (izyRead .cmp .A s)

/-- CPX, opcode E0, IMM (R227). -/
def execCpxImm (s : State) : Host.Outcome State Fault Refusal :=
  .next (immRead .cmp .X s)

/-- CPX, opcode E4, ZP (R227). -/
def execCpxZp (s : State) : Host.Outcome State Fault Refusal :=
  .next (zpRead .cmp .X s)

/-- CPX, opcode EC, ABS (R227). -/
def execCpxAbs (s : State) : Host.Outcome State Fault Refusal :=
  .next (absRead .cmp .X s)

/-- CPY, opcode C0, IMM (R228). -/
def execCpyImm (s : State) : Host.Outcome State Fault Refusal :=
  .next (immRead .cmp .Y s)

/-- CPY, opcode C4, ZP (R228). -/
def execCpyZp (s : State) : Host.Outcome State Fault Refusal :=
  .next (zpRead .cmp .Y s)

/-- CPY, opcode CC, ABS (R228). -/
def execCpyAbs (s : State) : Host.Outcome State Fault Refusal :=
  .next (absRead .cmp .Y s)

end Sys2Proof.Machine
end

