-- ==== Sys2Proof/Machine/Stack.lean ====
section
/-! DEFINITION. Stack instructions (46_stack_unit.md). -/

namespace Sys2Proof.Machine

/-- The two dummy reads before a pulling instruction under `EXTRA_DUMMY_READS` (46_stack_unit.md R325, R326;
47_control_transfer.md R352, R353). -/
def pullDummyReads (s : State) : State := extraRead (stackAddr s.sp) (extraRead s.pc s)

/-- PHA, opcode 48 (R323). -/
def execPha (s : State) : Host.Outcome State Fault Refusal :=
  let s1 := extraRead s.pc s
  .next (push s1.a s1)

/-- PHP, opcode 08: the software-path byte is pushed and P is unchanged (R324; decision D11). -/
def execPhp (s : State) : Host.Outcome State Fault Refusal :=
  let s1 := extraRead s.pc s
  .next (push (softwarePushedP s1.p) s1)

/-- PLA, opcode 68: the pulled byte goes to A through LDx (R325). -/
def execPla (s : State) : Host.Outcome State Fault Refusal :=
  let v := pull (pullDummyReads s)
  .next (applyOp .ldx v.1 .A v.2)

/-- PLP, opcode 28 (R326). -/
def execPlp (s : State) : Host.Outcome State Fault Refusal :=
  let v := pull (pullDummyReads s)
  .next { v.2 with p := pulledP v.1 }

end Sys2Proof.Machine
end

