-- ==== Sys2Proof/Machine/Control.lean ====
section
/-! DEFINITION. Branches, jumps, subroutine calls and returns, BRK (47_control_transfer.md). -/

namespace Sys2Proof.Machine

/-- BCC, opcode 90: `Branch(P.C = 0)` (R341). -/
def execBcc (s : State) : Host.Outcome State Fault Refusal :=
  .next (branch (!getFlag s.p .C) s)

/-- BCS, opcode B0: `Branch(P.C = 1)` (R342). -/
def execBcs (s : State) : Host.Outcome State Fault Refusal :=
  .next (branch (getFlag s.p .C) s)

/-- BEQ, opcode F0: `Branch(P.Z = 1)` (R343). -/
def execBeq (s : State) : Host.Outcome State Fault Refusal :=
  .next (branch (getFlag s.p .Z) s)

/-- BNE, opcode D0: `Branch(P.Z = 0)` (R344). -/
def execBne (s : State) : Host.Outcome State Fault Refusal :=
  .next (branch (!getFlag s.p .Z) s)

/-- BMI, opcode 30: `Branch(P.N = 1)` (R345). -/
def execBmi (s : State) : Host.Outcome State Fault Refusal :=
  .next (branch (getFlag s.p .N) s)

/-- BPL, opcode 10: `Branch(P.N = 0)` (R346). -/
def execBpl (s : State) : Host.Outcome State Fault Refusal :=
  .next (branch (!getFlag s.p .N) s)

/-- BVC, opcode 50: `Branch(P.V = 0)` (R347). -/
def execBvc (s : State) : Host.Outcome State Fault Refusal :=
  .next (branch (!getFlag s.p .V) s)

/-- BVS, opcode 70: `Branch(P.V = 1)` (R348). -/
def execBvs (s : State) : Host.Outcome State Fault Refusal :=
  .next (branch (getFlag s.p .V) s)

/-- JMP absolute, opcode 4C (R349). -/
def execJmpAbs (s : State) : Host.Outcome State Fault Refusal :=
  let e := eaAbs s
  .next { e.2 with pc := e.1 }

/-- JMP indirect, opcode 6C, with the page-wrap bug (R350; 41_addressing_modes.md R165). -/
def execJmpInd (s : State) : Host.Outcome State Fault Refusal :=
  let e := eaInd s
  .next { e.2 with pc := e.1 }

/-- JSR, opcode 20: the return address pushed is that of the last byte of the JSR, and the high target byte is
fetched after the pushes (R351). -/
def execJsr (s : State) : Host.Outcome State Fault Refusal :=
  let lo := fetch s
  let s1 := extraRead (stackAddr lo.2.sp) lo.2
  let s2 := push (hiByte s1.pc) s1
  let s3 := push (loByte s2.pc) s2
  let hi := fetch s3
  .next { hi.2 with pc := cat hi.1 lo.1 }

/-- RTS, opcode 60: the pulled address + 1 (R352). -/
def execRts (s : State) : Host.Outcome State Fault Refusal :=
  let lo := pull (pullDummyReads s)
  let hi := pull lo.2
  let s1 := extraRead (cat hi.1 lo.1) { hi.2 with pc := cat hi.1 lo.1 }
  .next { s1 with pc := s1.pc + 1 }

/-- RTI, opcode 40 (R353; 60_exceptions.md R414). -/
def execRti (s : State) : Host.Outcome State Fault Refusal :=
  .next (returnFromInterrupt (pullDummyReads s))

/-- BRK, opcode 00: one operand byte is fetched and discarded, then the entry on the software path (R354;
60_exceptions.md R408, R409). -/
def execBrk (s : State) : Host.Outcome State Fault Refusal :=
  .next (interruptEntry irqVector .software (fetch s).2)

end Sys2Proof.Machine
end

