-- ==== Sys2Proof/Machine/FlagsMisc.lean ====
section
/-! DEFINITION. Flag instructions and NOP (48_flags_misc.md), and the unmapped opcodes (40_dispatcher.md R126). -/

namespace Sys2Proof.Machine

/-- CLC, opcode 18: `Implied(); P.C <- 0` (R370). -/
def execClc (s : State) : Host.Outcome State Fault Refusal :=
  let s1 := implied s
  .next { s1 with p := setFlag s1.p .C false }

/-- SEC, opcode 38: `Implied(); P.C <- 1` (R371). -/
def execSec (s : State) : Host.Outcome State Fault Refusal :=
  let s1 := implied s
  .next { s1 with p := setFlag s1.p .C true }

/-- CLI, opcode 58: `Implied(); P.I <- 0` (R372). -/
def execCli (s : State) : Host.Outcome State Fault Refusal :=
  let s1 := implied s
  .next { s1 with p := setFlag s1.p .I false }

/-- SEI, opcode 78: `Implied(); P.I <- 1` (R373). -/
def execSei (s : State) : Host.Outcome State Fault Refusal :=
  let s1 := implied s
  .next { s1 with p := setFlag s1.p .I true }

/-- CLV, opcode B8: `Implied(); P.V <- 0` (R374). -/
def execClv (s : State) : Host.Outcome State Fault Refusal :=
  let s1 := implied s
  .next { s1 with p := setFlag s1.p .V false }

/-- CLD, opcode D8: `Implied(); P.D <- 0` (R375). -/
def execCld (s : State) : Host.Outcome State Fault Refusal :=
  let s1 := implied s
  .next { s1 with p := setFlag s1.p .D false }

/-- SED, opcode F8: `Implied(); P.D <- 1` (R376). -/
def execSed (s : State) : Host.Outcome State Fault Refusal :=
  let s1 := implied s
  .next { s1 with p := setFlag s1.p .D true }

/-- NOP, opcode EA: `Implied()` (R377). -/
def execNop (s : State) : Host.Outcome State Fault Refusal :=
  .next (implied s)

/-- An unmapped opcode: `Report(op, a)` with the address the opcode was fetched from, which is PC - 1 after the opcode
fetch; no access, no register, no flag (40_dispatcher.md R126; 30_encoding.md R95). -/
def execUnmapped (op : Byte) (s : State) : Host.Outcome State Fault Refusal :=
  .next (report op (s.pc - 1) s)

end Sys2Proof.Machine
end

