-- ==== Sys2Proof/Machine/LoadStore.lean ====
section
/-! DEFINITION. Load, store and register-transfer instructions (45_load_store_transfer.md). -/

namespace Sys2Proof.Machine

/-- LDA, opcode A9, IMM (R290). -/
def execLdaImm (s : State) : Host.Outcome State Fault Refusal :=
  .next (immRead .ldx .A s)

/-- LDA, opcode A5, ZP (R290). -/
def execLdaZp (s : State) : Host.Outcome State Fault Refusal :=
  .next (zpRead .ldx .A s)

/-- LDA, opcode B5, ZPX (R290). -/
def execLdaZpx (s : State) : Host.Outcome State Fault Refusal :=
  .next (zpIdxRead .X .ldx .A s)

/-- LDA, opcode AD, ABS (R290). -/
def execLdaAbs (s : State) : Host.Outcome State Fault Refusal :=
  .next (absRead .ldx .A s)

/-- LDA, opcode BD, ABX (R290). -/
def execLdaAbx (s : State) : Host.Outcome State Fault Refusal :=
  .next (absIdxRead .X .ldx .A s)

/-- LDA, opcode B9, ABY (R290). -/
def execLdaAby (s : State) : Host.Outcome State Fault Refusal :=
  .next (absIdxRead .Y .ldx .A s)

/-- LDA, opcode A1, IZX (R290). -/
def execLdaIzx (s : State) : Host.Outcome State Fault Refusal :=
  .next (izxRead .ldx .A s)

/-- LDA, opcode B1, IZY (R290). -/
def execLdaIzy (s : State) : Host.Outcome State Fault Refusal :=
  .next (izyRead .ldx .A s)

/-- LDX, opcode A2, IMM (R291). -/
def execLdxImm (s : State) : Host.Outcome State Fault Refusal :=
  .next (immRead .ldx .X s)

/-- LDX, opcode A6, ZP (R291). -/
def execLdxZp (s : State) : Host.Outcome State Fault Refusal :=
  .next (zpRead .ldx .X s)

/-- LDX, opcode B6, ZPY (R291). -/
def execLdxZpy (s : State) : Host.Outcome State Fault Refusal :=
  .next (zpIdxRead .Y .ldx .X s)

/-- LDX, opcode AE, ABS (R291). -/
def execLdxAbs (s : State) : Host.Outcome State Fault Refusal :=
  .next (absRead .ldx .X s)

/-- LDX, opcode BE, ABY (R291). -/
def execLdxAby (s : State) : Host.Outcome State Fault Refusal :=
  .next (absIdxRead .Y .ldx .X s)

/-- LDY, opcode A0, IMM (R292). -/
def execLdyImm (s : State) : Host.Outcome State Fault Refusal :=
  .next (immRead .ldx .Y s)

/-- LDY, opcode A4, ZP (R292). -/
def execLdyZp (s : State) : Host.Outcome State Fault Refusal :=
  .next (zpRead .ldx .Y s)

/-- LDY, opcode B4, ZPX (R292). -/
def execLdyZpx (s : State) : Host.Outcome State Fault Refusal :=
  .next (zpIdxRead .X .ldx .Y s)

/-- LDY, opcode AC, ABS (R292). -/
def execLdyAbs (s : State) : Host.Outcome State Fault Refusal :=
  .next (absRead .ldx .Y s)

/-- LDY, opcode BC, ABX (R292). -/
def execLdyAbx (s : State) : Host.Outcome State Fault Refusal :=
  .next (absIdxRead .X .ldx .Y s)

/-- STA, opcode 85, ZP (R293). -/
def execStaZp (s : State) : Host.Outcome State Fault Refusal :=
  .next (zpWrite .A s)

/-- STA, opcode 95, ZPX (R293). -/
def execStaZpx (s : State) : Host.Outcome State Fault Refusal :=
  .next (zpIdxWrite .X .A s)

/-- STA, opcode 8D, ABS (R293). -/
def execStaAbs (s : State) : Host.Outcome State Fault Refusal :=
  .next (absWrite .A s)

/-- STA, opcode 9D, ABX (R293). -/
def execStaAbx (s : State) : Host.Outcome State Fault Refusal :=
  .next (absIdxWrite .X .A s)

/-- STA, opcode 99, ABY (R293). -/
def execStaAby (s : State) : Host.Outcome State Fault Refusal :=
  .next (absIdxWrite .Y .A s)

/-- STA, opcode 81, IZX (R293). -/
def execStaIzx (s : State) : Host.Outcome State Fault Refusal :=
  .next (izxWrite .A s)

/-- STA, opcode 91, IZY (R293). -/
def execStaIzy (s : State) : Host.Outcome State Fault Refusal :=
  .next (izyWrite .A s)

/-- STX, opcode 86, ZP (R294). -/
def execStxZp (s : State) : Host.Outcome State Fault Refusal :=
  .next (zpWrite .X s)

/-- STX, opcode 96, ZPY (R294). -/
def execStxZpy (s : State) : Host.Outcome State Fault Refusal :=
  .next (zpIdxWrite .Y .X s)

/-- STX, opcode 8E, ABS (R294). -/
def execStxAbs (s : State) : Host.Outcome State Fault Refusal :=
  .next (absWrite .X s)

/-- STY, opcode 84, ZP (R295). -/
def execStyZp (s : State) : Host.Outcome State Fault Refusal :=
  .next (zpWrite .Y s)

/-- STY, opcode 94, ZPX (R295). -/
def execStyZpx (s : State) : Host.Outcome State Fault Refusal :=
  .next (zpIdxWrite .X .Y s)

/-- STY, opcode 8C, ABS (R295). -/
def execStyAbs (s : State) : Host.Outcome State Fault Refusal :=
  .next (absWrite .Y s)

/-- TAX, opcode AA: `Implied(); (X, P) <- LDx(A, X, P)` (R296). -/
def execTax (s : State) : Host.Outcome State Fault Refusal :=
  let s1 := implied s
  .next (applyOp .ldx s1.a .X s1)

/-- TAY, opcode A8: `Implied(); (Y, P) <- LDx(A, Y, P)` (R297). -/
def execTay (s : State) : Host.Outcome State Fault Refusal :=
  let s1 := implied s
  .next (applyOp .ldx s1.a .Y s1)

/-- TSX, opcode BA: `Implied(); (X, P) <- LDx(S, X, P)` (R298). -/
def execTsx (s : State) : Host.Outcome State Fault Refusal :=
  let s1 := implied s
  .next (applyOp .ldx s1.sp .X s1)

/-- TXA, opcode 8A: `Implied(); (A, P) <- LDx(X, A, P)` (R299). -/
def execTxa (s : State) : Host.Outcome State Fault Refusal :=
  let s1 := implied s
  .next (applyOp .ldx s1.x .A s1)

/-- TYA, opcode 98: `Implied(); (A, P) <- LDx(Y, A, P)` (R300). -/
def execTya (s : State) : Host.Outcome State Fault Refusal :=
  let s1 := implied s
  .next (applyOp .ldx s1.y .A s1)

/-- TXS, opcode 9A: `Implied(); S <- X, no flag` (R301). -/
def execTxs (s : State) : Host.Outcome State Fault Refusal :=
  let s1 := implied s
  .next { s1 with sp := s1.x }

end Sys2Proof.Machine
end

