-- ==== Sys2Proof/Machine/Rmw.lean ====
section
/-! DEFINITION. Shift, rotate, increment and decrement instructions (44_rmw_instructions.md). -/

namespace Sys2Proof.Machine

/-- ASL, opcode 0A, ACC (R260). -/
def execAslAcc (s : State) : Host.Outcome State Fault Refusal :=
  .next (accModify .asl s)

/-- ASL, opcode 06, ZP (R260). -/
def execAslZp (s : State) : Host.Outcome State Fault Refusal :=
  .next (zpModify .asl s)

/-- ASL, opcode 16, ZPX (R260). -/
def execAslZpx (s : State) : Host.Outcome State Fault Refusal :=
  .next (zpIdxModify .X .asl s)

/-- ASL, opcode 0E, ABS (R260). -/
def execAslAbs (s : State) : Host.Outcome State Fault Refusal :=
  .next (absModify .asl s)

/-- ASL, opcode 1E, ABX (R260). -/
def execAslAbx (s : State) : Host.Outcome State Fault Refusal :=
  .next (absIdxModify .X .asl s)

/-- LSR, opcode 4A, ACC (R261). -/
def execLsrAcc (s : State) : Host.Outcome State Fault Refusal :=
  .next (accModify .lsr s)

/-- LSR, opcode 46, ZP (R261). -/
def execLsrZp (s : State) : Host.Outcome State Fault Refusal :=
  .next (zpModify .lsr s)

/-- LSR, opcode 56, ZPX (R261). -/
def execLsrZpx (s : State) : Host.Outcome State Fault Refusal :=
  .next (zpIdxModify .X .lsr s)

/-- LSR, opcode 4E, ABS (R261). -/
def execLsrAbs (s : State) : Host.Outcome State Fault Refusal :=
  .next (absModify .lsr s)

/-- LSR, opcode 5E, ABX (R261). -/
def execLsrAbx (s : State) : Host.Outcome State Fault Refusal :=
  .next (absIdxModify .X .lsr s)

/-- ROL, opcode 2A, ACC (R262). -/
def execRolAcc (s : State) : Host.Outcome State Fault Refusal :=
  .next (accModify .rol s)

/-- ROL, opcode 26, ZP (R262). -/
def execRolZp (s : State) : Host.Outcome State Fault Refusal :=
  .next (zpModify .rol s)

/-- ROL, opcode 36, ZPX (R262). -/
def execRolZpx (s : State) : Host.Outcome State Fault Refusal :=
  .next (zpIdxModify .X .rol s)

/-- ROL, opcode 2E, ABS (R262). -/
def execRolAbs (s : State) : Host.Outcome State Fault Refusal :=
  .next (absModify .rol s)

/-- ROL, opcode 3E, ABX (R262). -/
def execRolAbx (s : State) : Host.Outcome State Fault Refusal :=
  .next (absIdxModify .X .rol s)

/-- ROR, opcode 6A, ACC (R263). -/
def execRorAcc (s : State) : Host.Outcome State Fault Refusal :=
  .next (accModify .ror s)

/-- ROR, opcode 66, ZP (R263). -/
def execRorZp (s : State) : Host.Outcome State Fault Refusal :=
  .next (zpModify .ror s)

/-- ROR, opcode 76, ZPX (R263). -/
def execRorZpx (s : State) : Host.Outcome State Fault Refusal :=
  .next (zpIdxModify .X .ror s)

/-- ROR, opcode 6E, ABS (R263). -/
def execRorAbs (s : State) : Host.Outcome State Fault Refusal :=
  .next (absModify .ror s)

/-- ROR, opcode 7E, ABX (R263). -/
def execRorAbx (s : State) : Host.Outcome State Fault Refusal :=
  .next (absIdxModify .X .ror s)

/-- INC, opcode E6, ZP (R264). -/
def execIncZp (s : State) : Host.Outcome State Fault Refusal :=
  .next (zpModify .inc s)

/-- INC, opcode F6, ZPX (R264). -/
def execIncZpx (s : State) : Host.Outcome State Fault Refusal :=
  .next (zpIdxModify .X .inc s)

/-- INC, opcode EE, ABS (R264). -/
def execIncAbs (s : State) : Host.Outcome State Fault Refusal :=
  .next (absModify .inc s)

/-- INC, opcode FE, ABX (R264). -/
def execIncAbx (s : State) : Host.Outcome State Fault Refusal :=
  .next (absIdxModify .X .inc s)

/-- DEC, opcode C6, ZP (R265). -/
def execDecZp (s : State) : Host.Outcome State Fault Refusal :=
  .next (zpModify .dec s)

/-- DEC, opcode D6, ZPX (R265). -/
def execDecZpx (s : State) : Host.Outcome State Fault Refusal :=
  .next (zpIdxModify .X .dec s)

/-- DEC, opcode CE, ABS (R265). -/
def execDecAbs (s : State) : Host.Outcome State Fault Refusal :=
  .next (absModify .dec s)

/-- DEC, opcode DE, ABX (R265). -/
def execDecAbx (s : State) : Host.Outcome State Fault Refusal :=
  .next (absIdxModify .X .dec s)

/-- INX, opcode E8: `Implied(); (X, P) <- INC(X, X, P)` (R266). -/
def execInx (s : State) : Host.Outcome State Fault Refusal :=
  let s1 := implied s
  .next (applyOp .inc s1.x .X s1)

/-- INY, opcode C8: `Implied(); (Y, P) <- INC(Y, Y, P)` (R267). -/
def execIny (s : State) : Host.Outcome State Fault Refusal :=
  let s1 := implied s
  .next (applyOp .inc s1.y .Y s1)

/-- DEX, opcode CA: `Implied(); (X, P) <- DEC(X, X, P)` (R268). -/
def execDex (s : State) : Host.Outcome State Fault Refusal :=
  let s1 := implied s
  .next (applyOp .dec s1.x .X s1)

/-- DEY, opcode 88: `Implied(); (Y, P) <- DEC(Y, Y, P)` (R269). -/
def execDey (s : State) : Host.Outcome State Fault Refusal :=
  let s1 := implied s
  .next (applyOp .dec s1.y .Y s1)

end Sys2Proof.Machine
end

