-- ==== Sys2Proof/Machine/Dispatch.lean ====
section
/-! DEFINITION. The dispatch of 40_dispatcher.md R125: each instruction to its meaning, which runs with the opcode
already fetched and PC at the byte after it. -/

namespace Sys2Proof.Machine

def exec (i : Instr) (s : State) : Host.Outcome State Fault Refusal :=
    match i with
    -- ADC (R220)
    | .adcImm => Sys2Proof.Machine.execAdcImm s
    | .adcZp => Sys2Proof.Machine.execAdcZp s
    | .adcZpx => Sys2Proof.Machine.execAdcZpx s
    | .adcAbs => Sys2Proof.Machine.execAdcAbs s
    | .adcAbx => Sys2Proof.Machine.execAdcAbx s
    | .adcAby => Sys2Proof.Machine.execAdcAby s
    | .adcIzx => Sys2Proof.Machine.execAdcIzx s
    | .adcIzy => Sys2Proof.Machine.execAdcIzy s
    -- SBC (R221)
    | .sbcImm => Sys2Proof.Machine.execSbcImm s
    | .sbcZp => Sys2Proof.Machine.execSbcZp s
    | .sbcZpx => Sys2Proof.Machine.execSbcZpx s
    | .sbcAbs => Sys2Proof.Machine.execSbcAbs s
    | .sbcAbx => Sys2Proof.Machine.execSbcAbx s
    | .sbcAby => Sys2Proof.Machine.execSbcAby s
    | .sbcIzx => Sys2Proof.Machine.execSbcIzx s
    | .sbcIzy => Sys2Proof.Machine.execSbcIzy s
    -- AND (R222)
    | .andImm => Sys2Proof.Machine.execAndImm s
    | .andZp => Sys2Proof.Machine.execAndZp s
    | .andZpx => Sys2Proof.Machine.execAndZpx s
    | .andAbs => Sys2Proof.Machine.execAndAbs s
    | .andAbx => Sys2Proof.Machine.execAndAbx s
    | .andAby => Sys2Proof.Machine.execAndAby s
    | .andIzx => Sys2Proof.Machine.execAndIzx s
    | .andIzy => Sys2Proof.Machine.execAndIzy s
    -- ORA (R223)
    | .oraImm => Sys2Proof.Machine.execOraImm s
    | .oraZp => Sys2Proof.Machine.execOraZp s
    | .oraZpx => Sys2Proof.Machine.execOraZpx s
    | .oraAbs => Sys2Proof.Machine.execOraAbs s
    | .oraAbx => Sys2Proof.Machine.execOraAbx s
    | .oraAby => Sys2Proof.Machine.execOraAby s
    | .oraIzx => Sys2Proof.Machine.execOraIzx s
    | .oraIzy => Sys2Proof.Machine.execOraIzy s
    -- EOR (R224)
    | .eorImm => Sys2Proof.Machine.execEorImm s
    | .eorZp => Sys2Proof.Machine.execEorZp s
    | .eorZpx => Sys2Proof.Machine.execEorZpx s
    | .eorAbs => Sys2Proof.Machine.execEorAbs s
    | .eorAbx => Sys2Proof.Machine.execEorAbx s
    | .eorAby => Sys2Proof.Machine.execEorAby s
    | .eorIzx => Sys2Proof.Machine.execEorIzx s
    | .eorIzy => Sys2Proof.Machine.execEorIzy s
    -- BIT (R225)
    | .bitZp => Sys2Proof.Machine.execBitZp s
    | .bitAbs => Sys2Proof.Machine.execBitAbs s
    -- CMP (R226)
    | .cmpImm => Sys2Proof.Machine.execCmpImm s
    | .cmpZp => Sys2Proof.Machine.execCmpZp s
    | .cmpZpx => Sys2Proof.Machine.execCmpZpx s
    | .cmpAbs => Sys2Proof.Machine.execCmpAbs s
    | .cmpAbx => Sys2Proof.Machine.execCmpAbx s
    | .cmpAby => Sys2Proof.Machine.execCmpAby s
    | .cmpIzx => Sys2Proof.Machine.execCmpIzx s
    | .cmpIzy => Sys2Proof.Machine.execCmpIzy s
    -- CPX (R227)
    | .cpxImm => Sys2Proof.Machine.execCpxImm s
    | .cpxZp => Sys2Proof.Machine.execCpxZp s
    | .cpxAbs => Sys2Proof.Machine.execCpxAbs s
    -- CPY (R228)
    | .cpyImm => Sys2Proof.Machine.execCpyImm s
    | .cpyZp => Sys2Proof.Machine.execCpyZp s
    | .cpyAbs => Sys2Proof.Machine.execCpyAbs s
    -- ASL (R260)
    | .aslAcc => Sys2Proof.Machine.execAslAcc s
    | .aslZp => Sys2Proof.Machine.execAslZp s
    | .aslZpx => Sys2Proof.Machine.execAslZpx s
    | .aslAbs => Sys2Proof.Machine.execAslAbs s
    | .aslAbx => Sys2Proof.Machine.execAslAbx s
    -- LSR (R261)
    | .lsrAcc => Sys2Proof.Machine.execLsrAcc s
    | .lsrZp => Sys2Proof.Machine.execLsrZp s
    | .lsrZpx => Sys2Proof.Machine.execLsrZpx s
    | .lsrAbs => Sys2Proof.Machine.execLsrAbs s
    | .lsrAbx => Sys2Proof.Machine.execLsrAbx s
    -- ROL (R262)
    | .rolAcc => Sys2Proof.Machine.execRolAcc s
    | .rolZp => Sys2Proof.Machine.execRolZp s
    | .rolZpx => Sys2Proof.Machine.execRolZpx s
    | .rolAbs => Sys2Proof.Machine.execRolAbs s
    | .rolAbx => Sys2Proof.Machine.execRolAbx s
    -- ROR (R263)
    | .rorAcc => Sys2Proof.Machine.execRorAcc s
    | .rorZp => Sys2Proof.Machine.execRorZp s
    | .rorZpx => Sys2Proof.Machine.execRorZpx s
    | .rorAbs => Sys2Proof.Machine.execRorAbs s
    | .rorAbx => Sys2Proof.Machine.execRorAbx s
    -- INC (R264)
    | .incZp => Sys2Proof.Machine.execIncZp s
    | .incZpx => Sys2Proof.Machine.execIncZpx s
    | .incAbs => Sys2Proof.Machine.execIncAbs s
    | .incAbx => Sys2Proof.Machine.execIncAbx s
    -- DEC (R265)
    | .decZp => Sys2Proof.Machine.execDecZp s
    | .decZpx => Sys2Proof.Machine.execDecZpx s
    | .decAbs => Sys2Proof.Machine.execDecAbs s
    | .decAbx => Sys2Proof.Machine.execDecAbx s
    -- INX (R266)
    | .inx => Sys2Proof.Machine.execInx s
    -- INY (R267)
    | .iny => Sys2Proof.Machine.execIny s
    -- DEX (R268)
    | .dex => Sys2Proof.Machine.execDex s
    -- DEY (R269)
    | .dey => Sys2Proof.Machine.execDey s
    -- LDA (R290)
    | .ldaImm => Sys2Proof.Machine.execLdaImm s
    | .ldaZp => Sys2Proof.Machine.execLdaZp s
    | .ldaZpx => Sys2Proof.Machine.execLdaZpx s
    | .ldaAbs => Sys2Proof.Machine.execLdaAbs s
    | .ldaAbx => Sys2Proof.Machine.execLdaAbx s
    | .ldaAby => Sys2Proof.Machine.execLdaAby s
    | .ldaIzx => Sys2Proof.Machine.execLdaIzx s
    | .ldaIzy => Sys2Proof.Machine.execLdaIzy s
    -- LDX (R291)
    | .ldxImm => Sys2Proof.Machine.execLdxImm s
    | .ldxZp => Sys2Proof.Machine.execLdxZp s
    | .ldxZpy => Sys2Proof.Machine.execLdxZpy s
    | .ldxAbs => Sys2Proof.Machine.execLdxAbs s
    | .ldxAby => Sys2Proof.Machine.execLdxAby s
    -- LDY (R292)
    | .ldyImm => Sys2Proof.Machine.execLdyImm s
    | .ldyZp => Sys2Proof.Machine.execLdyZp s
    | .ldyZpx => Sys2Proof.Machine.execLdyZpx s
    | .ldyAbs => Sys2Proof.Machine.execLdyAbs s
    | .ldyAbx => Sys2Proof.Machine.execLdyAbx s
    -- STA (R293)
    | .staZp => Sys2Proof.Machine.execStaZp s
    | .staZpx => Sys2Proof.Machine.execStaZpx s
    | .staAbs => Sys2Proof.Machine.execStaAbs s
    | .staAbx => Sys2Proof.Machine.execStaAbx s
    | .staAby => Sys2Proof.Machine.execStaAby s
    | .staIzx => Sys2Proof.Machine.execStaIzx s
    | .staIzy => Sys2Proof.Machine.execStaIzy s
    -- STX (R294)
    | .stxZp => Sys2Proof.Machine.execStxZp s
    | .stxZpy => Sys2Proof.Machine.execStxZpy s
    | .stxAbs => Sys2Proof.Machine.execStxAbs s
    -- STY (R295)
    | .styZp => Sys2Proof.Machine.execStyZp s
    | .styZpx => Sys2Proof.Machine.execStyZpx s
    | .styAbs => Sys2Proof.Machine.execStyAbs s
    -- TAX (R296)
    | .tax => Sys2Proof.Machine.execTax s
    -- TAY (R297)
    | .tay => Sys2Proof.Machine.execTay s
    -- TSX (R298)
    | .tsx => Sys2Proof.Machine.execTsx s
    -- TXA (R299)
    | .txa => Sys2Proof.Machine.execTxa s
    -- TYA (R300)
    | .tya => Sys2Proof.Machine.execTya s
    -- TXS (R301)
    | .txs => Sys2Proof.Machine.execTxs s
    -- PHA (R323)
    | .pha => Sys2Proof.Machine.execPha s
    -- PHP (R324)
    | .php => Sys2Proof.Machine.execPhp s
    -- PLA (R325)
    | .pla => Sys2Proof.Machine.execPla s
    -- PLP (R326)
    | .plp => Sys2Proof.Machine.execPlp s
    -- BCC (R341)
    | .bcc => Sys2Proof.Machine.execBcc s
    -- BCS (R342)
    | .bcs => Sys2Proof.Machine.execBcs s
    -- BEQ (R343)
    | .beq => Sys2Proof.Machine.execBeq s
    -- BNE (R344)
    | .bne => Sys2Proof.Machine.execBne s
    -- BMI (R345)
    | .bmi => Sys2Proof.Machine.execBmi s
    -- BPL (R346)
    | .bpl => Sys2Proof.Machine.execBpl s
    -- BVC (R347)
    | .bvc => Sys2Proof.Machine.execBvc s
    -- BVS (R348)
    | .bvs => Sys2Proof.Machine.execBvs s
    -- JMP (R349)
    | .jmpAbs => Sys2Proof.Machine.execJmpAbs s
    | .jmpInd => Sys2Proof.Machine.execJmpInd s
    -- JSR (R351)
    | .jsr => Sys2Proof.Machine.execJsr s
    -- RTS (R352)
    | .rts => Sys2Proof.Machine.execRts s
    -- RTI (R353)
    | .rti => Sys2Proof.Machine.execRti s
    -- BRK (R354)
    | .brk => Sys2Proof.Machine.execBrk s
    -- CLC (R370)
    | .clc => Sys2Proof.Machine.execClc s
    -- SEC (R371)
    | .sec => Sys2Proof.Machine.execSec s
    -- CLI (R372)
    | .cli => Sys2Proof.Machine.execCli s
    -- SEI (R373)
    | .sei => Sys2Proof.Machine.execSei s
    -- CLV (R374)
    | .clv => Sys2Proof.Machine.execClv s
    -- CLD (R375)
    | .cld => Sys2Proof.Machine.execCld s
    -- SED (R376)
    | .sed => Sys2Proof.Machine.execSed s
    -- NOP (R377)
    | .nop => Sys2Proof.Machine.execNop s
    -- UNMAPPED (R126)
    | .unmapped op => Sys2Proof.Machine.execUnmapped op s

end Sys2Proof.Machine
end

