-- ==== Sys2Proof/Machine/Step.lean ====
section
/-! DEFINITION. One iteration of the dispatch loop (40_dispatcher.md R120). -/

namespace Sys2Proof.Machine

/-- `Iteration()` (40_dispatcher.md R120): the halt test, the interrupt poll, the opcode fetch and the instruction.
A halt request ends `run()` and nothing else happens (R121). Outside `run()` no iteration runs and the state stays as
it is (60_exceptions.md R418; DESIGN CHOICE, log entry 6). -/
def step (s : State) : Host.Outcome State Fault Refusal :=
  if !s.running then .next s
  else if s.haltReq then .next (stopRun s)
  else
    let op := fetch (pollInterrupts s)
    exec (decodeOpcode op.1) op.2

/-- `s` with the instruction whose first `nbits` bits are those of `w`, and whose further bits are 0, stored where the
next step fetches (log entry 12). -/
def State.withFetchWord (s : State) (nbits w : Nat) : State :=
  placeInstruction (tableBytes (w % 2 ^ nbits)) s

end Sys2Proof.Machine
end

