-- ==== Sys2Proof/Machine/HostCalls.lean ====
section
/-! DEFINITION. The host's calls (60_exceptions.md R402; 70_reset_and_hazards.md R450 to R455), which act between
iterations (decision D10), and the runs they make with the iterations. -/

namespace Sys2Proof.Machine

/-- The calls of the host (20_memory.md and 60_exceptions.md glossary: `reset`, `run`, `halt` and `signal`). -/
inductive HostCall where
  /-- `reset()` (70_reset_and_hazards.md R450). -/
  | reset
  /-- `run()` (70_reset_and_hazards.md R454). -/
  | run
  /-- `halt()` (70_reset_and_hazards.md R455). -/
  | halt
  /-- `signal(line, asserted)` (60_exceptions.md R402). -/
  | signal (line : Line) (asserted : Bool)
deriving DecidableEq, Repr

/-- `line <- asserted` (60_exceptions.md R402). -/
def signalLine (line : Line) (asserted : Bool) (s : State) : State :=
  match line with
  | .NMI => { s with nmi := asserted }
  | .IRQ => { s with irq := asserted }

/-- `halt_req <- true` (70_reset_and_hazards.md R455). -/
def requestHalt (s : State) : State := { s with haltReq := true }

/-- The effect of a host call made at a boundary. `reset()` and `run()` are refused inside `run()`
(70_reset_and_hazards.md R450; 93_implementation_defined.md U9; log entry 8). -/
def hostCall (c : HostCall) (s : State) : Host.Outcome State Fault Refusal :=
  match c with
  | .reset => if s.running then .refused .resetDuringRun else .next (resetSequence s)
  | .run => if s.running then .refused .runDuringRun else .next { s with running := true }
  | .halt => .next (requestHalt s)
  | .signal line asserted => .next (signalLine line asserted s)

/-- What happens next at a boundary: a host call, or one iteration. -/
inductive Action where
  | call (c : HostCall)
  | iterate
deriving DecidableEq, Repr

/-- One action. -/
def act (a : Action) (s : State) : Host.Outcome State Fault Refusal :=
  match a with
  | .call c => hostCall c s
  | .iterate => step s

/-- A run: actions one after another, up to the first refusal (40_dispatcher.md R131: the host's calls and the bytes it
answers are the only sources of difference between runs). -/
def runActions : List Action → State → Host.Outcome State Fault Refusal
  | [], s => .next s
  | a :: as, s =>
    match act a s with
    | .next t => runActions as t
    | .fault r => .fault r
    | .refused r => .refused r

end Sys2Proof.Machine
end

