-- ==== Sys2Proof/Safety.lean ====
section
/-! DEFINITION. The words the claims are stated in: what the host answers to a row of loads, the addresses an
addressing mode touches written out in closed form, the tables of the spec that speak of every instruction at once, and
the invariant of the core. Nothing here is used by the machine. -/

namespace Sys2Proof.Machine

/-! ### Loads in a row -/

/-- The byte the host answers to the load that follows `k` others from `s`, at `a`, when nothing is stored in between:
its answer if it has one waiting, or else the byte in memory. -/
def State.answer (s : State) (k : Nat) (a : Addr) : Byte := (s.hostLoads[k]?).join.getD (s.mem.read a)

/-- The accesses of loads in a row, oldest first, the first of them preceded by `k` others. -/
def State.readEvents (s : State) : Nat → List Addr → List Event
  | _, [] => []
  | k, a :: as => .read a (s.answer k a) :: State.readEvents s (k + 1) as

/-- `s` after loads in a row at the given addresses, with PC as given and nothing else changed. -/
def State.afterReads (s : State) (as : List Addr) (pc : Addr) : State :=
  { s with
    hostLoads := s.hostLoads.drop as.length
    log := (s.readEvents 0 as).reverse ++ s.log
    pc := pc }

/-- A dummy read that only `EXTRA_DUMMY_READS` issues (00_scope.md R5). -/
def State.extra (s : State) (as : List Addr) : List Addr := if s.config.extraDummyReads then as else []

/-! ### Where an addressing mode reads and writes -/

/-- The 16-bit operand of the absolute modes: low byte at PC, high byte after it (41_addressing_modes.md R149). -/
def State.absOperand (s : State) : Addr := cat (s.answer 1 (s.pc + 1)) (s.answer 0 s.pc)

/-- The base of (zp),Y: the two bytes of the zero-page pointer (41_addressing_modes.md R160). -/
def State.izyBase (s : State) : Addr :=
  let p := s.answer 0 s.pc
  cat (s.answer 2 (zext16 (p + 1))) (s.answer 1 (zext16 p))

/-- A page cross: "an index addition changes the high byte" (00_scope.md glossary; 41_addressing_modes.md R153). -/
def indexCross (base : Addr) (idx : Byte) : Bool := hiByte (base + zext16 idx) != hiByte base

/-- base + index modulo 2^16, after the given accesses; the wrong-page address keeps the base's high byte, and is read
on a page cross, or always for write and modify (41_addressing_modes.md R153; 20_memory.md R77). -/
def indexedAccess (kind : AccessKind) (before : List Addr) (base : Addr) (idx : Byte) : List Addr × Addr :=
  (before ++
    (if indexCross base idx = true ∨ kind ≠ .read then [cat (hiByte base) (loByte base + idx)] else []),
    base + zext16 idx)

/-- The loads a mode issues before its data access, in order, and the address of that data access
(41_addressing_modes.md R141 to R162). The four formats without a data access have no entry of their own. -/
def operandAccess (kind : AccessKind) (m : Mode) (s : State) : List Addr × Addr :=
  match m with
  | .imm => ([], s.pc)
  | .zp => ([s.pc], zext16 (s.answer 0 s.pc))
  | .zpx => ([s.pc, zext16 (s.answer 0 s.pc)], zext16 (s.answer 0 s.pc + s.x))
  | .zpy => ([s.pc, zext16 (s.answer 0 s.pc)], zext16 (s.answer 0 s.pc + s.y))
  | .abs => ([s.pc, s.pc + 1], s.absOperand)
  | .abx => indexedAccess kind [s.pc, s.pc + 1] s.absOperand s.x
  | .aby => indexedAccess kind [s.pc, s.pc + 1] s.absOperand s.y
  | .izx =>
    let p := s.answer 0 s.pc
    let q := p + s.x
    ([s.pc, zext16 p, zext16 q, zext16 (q + 1)],
      cat (s.answer 3 (zext16 (q + 1))) (s.answer 2 (zext16 q)))
  | .izy =>
    let p := s.answer 0 s.pc
    indexedAccess kind [s.pc, zext16 p, zext16 (p + 1)] s.izyBase s.y
  | .imp => ([], s.pc)
  | .acc => ([], s.pc)
  | .rel => ([], s.pc)
  | .ind => ([], s.pc)

/-- The effective address of an instruction's data access. -/
def State.ea (s : State) (kind : AccessKind) (m : Mode) : Addr := (operandAccess kind m s).2

/-- The byte the data access of a read or modify instruction gives. -/
def State.operand (s : State) (kind : AccessKind) (m : Mode) : Byte :=
  s.answer (operandAccess kind m s).1.length (s.ea kind m)

/-- PC after the operand bytes of a format. -/
def State.pcAfter (s : State) (m : Mode) : Addr := s.pc + BitVec.ofNat 16 m.operandBytes

/-- `s` after the loads that come before the data access, with the operand bytes fetched. -/
def State.atAccess (s : State) (kind : AccessKind) (m : Mode) : State :=
  s.afterReads (operandAccess kind m s).1 (s.pcAfter m)

/-- `s` after the data read too. -/
def State.afterOperand (s : State) (kind : AccessKind) (m : Mode) : State :=
  s.afterReads ((operandAccess kind m s).1 ++ [s.ea kind m]) (s.pcAfter m)

/-- `s` after a register's value `v` is stored at a mode's effective address (41_addressing_modes.md R143 to R162). -/
def State.stored (s : State) (m : Mode) (v : Byte) : State :=
  { s.atAccess .write m with
    mem := s.mem.write (s.ea .write m) v
    log := .write (s.ea .write m) v :: (s.atAccess .write m).log }

/-- `s` after a modify procedure: the read, the dummy write of the byte read, the write of `r`, and P = `q`
(41_addressing_modes.md R144). -/
def State.modified (s : State) (m : Mode) (r q : Byte) : State :=
  { s.afterOperand .modify m with
    p := q
    mem := (s.mem.write (s.ea .modify m) (s.operand .modify m)).write (s.ea .modify m) r
    log := [.write (s.ea .modify m) r, .write (s.ea .modify m) (s.operand .modify m)] ++
      (s.afterOperand .modify m).log }

/-- Flags assigned one after another. -/
def setFlags (p : Byte) (fs : List (Flag × Bool)) : Byte := fs.foldl (fun q fb => setFlag q fb.1 fb.2) p

/-! ### Taking an interrupt, in closed form -/

/-- `s` after an entry's pushes of PC and the byte `b`, with S lowered by 3 and I set: PCH at `0x0100 | S`, PCL below
it, `b` below that (60_exceptions.md R408, R411). -/
def entryPushed (b : Byte) (s : State) : State :=
  { s with
    mem := ((s.mem.write (stackAddr s.sp) (hiByte s.pc)).write (stackAddr (s.sp - 1)) (loByte s.pc)).write
      (stackAddr (s.sp - 2)) b
    sp := s.sp - 3
    p := setFlag s.p .I true
    log := [.write (stackAddr (s.sp - 2)) b, .write (stackAddr (s.sp - 1)) (loByte s.pc),
      .write (stackAddr s.sp) (hiByte s.pc)] ++ s.log }

/-- `s` with PC loaded from a vector, low byte read first (60_exceptions.md R410). -/
def vectored (vec : Addr) (s : State) : State :=
  s.afterReads [vec, vec + 1] (cat (s.answer 1 (vec + 1)) (s.answer 0 vec))

/-! ### Tables over every instruction -/

/-- The bus accesses of a trace: its reads and writes, not its reports (00_scope.md R12, R13). -/
def accesses : List Event → Nat
  | [] => 0
  | .read _ _ :: es => accesses es + 1
  | .write _ _ :: es => accesses es + 1
  | .report _ _ :: es => accesses es

/-- Accesses of each mapped opcode with `EXTRA_DUMMY_READS` false and true, opcode fetch included, no page crossed and
no branch taken: the table of 70_reset_and_hazards.md R464. -/
def accessTable : Instr → Nat × Nat
  | .adcImm => (2, 2)
  | .adcZp => (3, 3)
  | .adcZpx => (4, 4)
  | .adcAbs => (4, 4)
  | .adcAbx => (4, 4)
  | .adcAby => (4, 4)
  | .adcIzx => (6, 6)
  | .adcIzy => (5, 5)
  | .sbcImm => (2, 2)
  | .sbcZp => (3, 3)
  | .sbcZpx => (4, 4)
  | .sbcAbs => (4, 4)
  | .sbcAbx => (4, 4)
  | .sbcAby => (4, 4)
  | .sbcIzx => (6, 6)
  | .sbcIzy => (5, 5)
  | .andImm => (2, 2)
  | .andZp => (3, 3)
  | .andZpx => (4, 4)
  | .andAbs => (4, 4)
  | .andAbx => (4, 4)
  | .andAby => (4, 4)
  | .andIzx => (6, 6)
  | .andIzy => (5, 5)
  | .oraImm => (2, 2)
  | .oraZp => (3, 3)
  | .oraZpx => (4, 4)
  | .oraAbs => (4, 4)
  | .oraAbx => (4, 4)
  | .oraAby => (4, 4)
  | .oraIzx => (6, 6)
  | .oraIzy => (5, 5)
  | .eorImm => (2, 2)
  | .eorZp => (3, 3)
  | .eorZpx => (4, 4)
  | .eorAbs => (4, 4)
  | .eorAbx => (4, 4)
  | .eorAby => (4, 4)
  | .eorIzx => (6, 6)
  | .eorIzy => (5, 5)
  | .bitZp => (3, 3)
  | .bitAbs => (4, 4)
  | .cmpImm => (2, 2)
  | .cmpZp => (3, 3)
  | .cmpZpx => (4, 4)
  | .cmpAbs => (4, 4)
  | .cmpAbx => (4, 4)
  | .cmpAby => (4, 4)
  | .cmpIzx => (6, 6)
  | .cmpIzy => (5, 5)
  | .cpxImm => (2, 2)
  | .cpxZp => (3, 3)
  | .cpxAbs => (4, 4)
  | .cpyImm => (2, 2)
  | .cpyZp => (3, 3)
  | .cpyAbs => (4, 4)
  | .aslAcc => (1, 1)
  | .aslZp => (5, 5)
  | .aslZpx => (6, 6)
  | .aslAbs => (6, 6)
  | .aslAbx => (7, 7)
  | .lsrAcc => (1, 1)
  | .lsrZp => (5, 5)
  | .lsrZpx => (6, 6)
  | .lsrAbs => (6, 6)
  | .lsrAbx => (7, 7)
  | .rolAcc => (1, 1)
  | .rolZp => (5, 5)
  | .rolZpx => (6, 6)
  | .rolAbs => (6, 6)
  | .rolAbx => (7, 7)
  | .rorAcc => (1, 1)
  | .rorZp => (5, 5)
  | .rorZpx => (6, 6)
  | .rorAbs => (6, 6)
  | .rorAbx => (7, 7)
  | .incZp => (5, 5)
  | .incZpx => (6, 6)
  | .incAbs => (6, 6)
  | .incAbx => (7, 7)
  | .decZp => (5, 5)
  | .decZpx => (6, 6)
  | .decAbs => (6, 6)
  | .decAbx => (7, 7)
  | .inx => (1, 2)
  | .iny => (1, 2)
  | .dex => (1, 2)
  | .dey => (1, 2)
  | .ldaImm => (2, 2)
  | .ldaZp => (3, 3)
  | .ldaZpx => (4, 4)
  | .ldaAbs => (4, 4)
  | .ldaAbx => (4, 4)
  | .ldaAby => (4, 4)
  | .ldaIzx => (6, 6)
  | .ldaIzy => (5, 5)
  | .ldxImm => (2, 2)
  | .ldxZp => (3, 3)
  | .ldxZpy => (4, 4)
  | .ldxAbs => (4, 4)
  | .ldxAby => (4, 4)
  | .ldyImm => (2, 2)
  | .ldyZp => (3, 3)
  | .ldyZpx => (4, 4)
  | .ldyAbs => (4, 4)
  | .ldyAbx => (4, 4)
  | .staZp => (3, 3)
  | .staZpx => (4, 4)
  | .staAbs => (4, 4)
  | .staAbx => (5, 5)
  | .staAby => (5, 5)
  | .staIzx => (6, 6)
  | .staIzy => (6, 6)
  | .stxZp => (3, 3)
  | .stxZpy => (4, 4)
  | .stxAbs => (4, 4)
  | .styZp => (3, 3)
  | .styZpx => (4, 4)
  | .styAbs => (4, 4)
  | .tax => (1, 2)
  | .tay => (1, 2)
  | .tsx => (1, 2)
  | .txa => (1, 2)
  | .tya => (1, 2)
  | .txs => (1, 2)
  | .pha => (2, 3)
  | .php => (2, 3)
  | .pla => (2, 4)
  | .plp => (2, 4)
  | .bcc => (2, 2)
  | .bcs => (2, 2)
  | .beq => (2, 2)
  | .bne => (2, 2)
  | .bmi => (2, 2)
  | .bpl => (2, 2)
  | .bvc => (2, 2)
  | .bvs => (2, 2)
  | .jmpAbs => (3, 3)
  | .jmpInd => (5, 5)
  | .jsr => (5, 6)
  | .rts => (3, 6)
  | .rti => (4, 6)
  | .brk => (7, 7)
  | .clc => (1, 2)
  | .sec => (1, 2)
  | .cli => (1, 2)
  | .sei => (1, 2)
  | .clv => (1, 2)
  | .cld => (1, 2)
  | .sed => (1, 2)
  | .nop => (1, 2)
  | .unmapped _ => (1, 1)

/-- The instructions whose count has "on page cross" in the table of 70_reset_and_hazards.md R464. -/
def crossCounted : List Instr :=
  [.adcAbx, .adcAby, .adcIzy, .sbcAbx, .sbcAby, .sbcIzy, .andAbx, .andAby, .andIzy, .oraAbx,
   .oraAby, .oraIzy, .eorAbx, .eorAby, .eorIzy, .cmpAbx, .cmpAby, .cmpIzy, .ldaAbx, .ldaAby,
   .ldaIzy, .ldxAby, .ldyAbx]

/-- Whether a branch's condition holds (47_control_transfer.md R340); `none` for an instruction that is no branch. -/
def branchCondition (i : Instr) (p : Byte) : Option Bool :=
  match i with
  | .bpl => some (getFlag p .N == false)
  | .bmi => some (getFlag p .N == true)
  | .bvc => some (getFlag p .V == false)
  | .bvs => some (getFlag p .V == true)
  | .bcc => some (getFlag p .C == false)
  | .bcs => some (getFlag p .C == true)
  | .bne => some (getFlag p .Z == false)
  | .beq => some (getFlag p .Z == true)
  | _ => none

/-- The target of a branch, which counts from the address after it (41_addressing_modes.md R164). -/
def State.branchTarget (s : State) : Addr := s.pc + 1 + sext16 (s.answer 0 s.pc)

/-- The loads of a taken branch, offset fetch included (41_addressing_modes.md R164). -/
def State.takenReads (s : State) : List Addr :=
  [s.pc] ++
  (if hiByte s.branchTarget ≠ hiByte (s.pc + 1) then
    [cat (hiByte (s.pc + 1)) (loByte s.branchTarget)] else []) ++
  [s.pc + 1]

/-- Whether the index addition of a mode crosses a page (41_addressing_modes.md R153, R160). -/
def State.pageCross (s : State) (m : Mode) : Bool :=
  match m with
  | .abx => indexCross s.absOperand s.x
  | .aby => indexCross s.absOperand s.y
  | .izy => indexCross s.izyBase s.y
  | _ => false

/-- Accesses of an instruction from a state, opcode fetch included: the table, one more when an instruction that counts
page crosses has one, one more for a taken branch and another when it crosses (70_reset_and_hazards.md R464). -/
def accessCount (i : Instr) (s : State) : Nat :=
  (if s.config.extraDummyReads then (accessTable i).2 else (accessTable i).1) +
  (if i ∈ crossCounted ∧ s.pageCross i.mode = true then 1 else 0) +
  (match branchCondition i s.p with
    | some true => s.takenReads.length - 1
    | _ => 0)

/-- The flags each instruction may write (10_state.md R36 to R43; 42_operations.md R197); every other flag is
unchanged. -/
def writtenFlags : Instr → List Flag
  | .adcImm => [.N, .V, .Z, .C]
  | .adcZp => [.N, .V, .Z, .C]
  | .adcZpx => [.N, .V, .Z, .C]
  | .adcAbs => [.N, .V, .Z, .C]
  | .adcAbx => [.N, .V, .Z, .C]
  | .adcAby => [.N, .V, .Z, .C]
  | .adcIzx => [.N, .V, .Z, .C]
  | .adcIzy => [.N, .V, .Z, .C]
  | .sbcImm => [.N, .V, .Z, .C]
  | .sbcZp => [.N, .V, .Z, .C]
  | .sbcZpx => [.N, .V, .Z, .C]
  | .sbcAbs => [.N, .V, .Z, .C]
  | .sbcAbx => [.N, .V, .Z, .C]
  | .sbcAby => [.N, .V, .Z, .C]
  | .sbcIzx => [.N, .V, .Z, .C]
  | .sbcIzy => [.N, .V, .Z, .C]
  | .andImm => [.N, .Z]
  | .andZp => [.N, .Z]
  | .andZpx => [.N, .Z]
  | .andAbs => [.N, .Z]
  | .andAbx => [.N, .Z]
  | .andAby => [.N, .Z]
  | .andIzx => [.N, .Z]
  | .andIzy => [.N, .Z]
  | .oraImm => [.N, .Z]
  | .oraZp => [.N, .Z]
  | .oraZpx => [.N, .Z]
  | .oraAbs => [.N, .Z]
  | .oraAbx => [.N, .Z]
  | .oraAby => [.N, .Z]
  | .oraIzx => [.N, .Z]
  | .oraIzy => [.N, .Z]
  | .eorImm => [.N, .Z]
  | .eorZp => [.N, .Z]
  | .eorZpx => [.N, .Z]
  | .eorAbs => [.N, .Z]
  | .eorAbx => [.N, .Z]
  | .eorAby => [.N, .Z]
  | .eorIzx => [.N, .Z]
  | .eorIzy => [.N, .Z]
  | .bitZp => [.N, .V, .Z]
  | .bitAbs => [.N, .V, .Z]
  | .cmpImm => [.N, .Z, .C]
  | .cmpZp => [.N, .Z, .C]
  | .cmpZpx => [.N, .Z, .C]
  | .cmpAbs => [.N, .Z, .C]
  | .cmpAbx => [.N, .Z, .C]
  | .cmpAby => [.N, .Z, .C]
  | .cmpIzx => [.N, .Z, .C]
  | .cmpIzy => [.N, .Z, .C]
  | .cpxImm => [.N, .Z, .C]
  | .cpxZp => [.N, .Z, .C]
  | .cpxAbs => [.N, .Z, .C]
  | .cpyImm => [.N, .Z, .C]
  | .cpyZp => [.N, .Z, .C]
  | .cpyAbs => [.N, .Z, .C]
  | .aslAcc => [.N, .Z, .C]
  | .aslZp => [.N, .Z, .C]
  | .aslZpx => [.N, .Z, .C]
  | .aslAbs => [.N, .Z, .C]
  | .aslAbx => [.N, .Z, .C]
  | .lsrAcc => [.N, .Z, .C]
  | .lsrZp => [.N, .Z, .C]
  | .lsrZpx => [.N, .Z, .C]
  | .lsrAbs => [.N, .Z, .C]
  | .lsrAbx => [.N, .Z, .C]
  | .rolAcc => [.N, .Z, .C]
  | .rolZp => [.N, .Z, .C]
  | .rolZpx => [.N, .Z, .C]
  | .rolAbs => [.N, .Z, .C]
  | .rolAbx => [.N, .Z, .C]
  | .rorAcc => [.N, .Z, .C]
  | .rorZp => [.N, .Z, .C]
  | .rorZpx => [.N, .Z, .C]
  | .rorAbs => [.N, .Z, .C]
  | .rorAbx => [.N, .Z, .C]
  | .incZp => [.N, .Z]
  | .incZpx => [.N, .Z]
  | .incAbs => [.N, .Z]
  | .incAbx => [.N, .Z]
  | .decZp => [.N, .Z]
  | .decZpx => [.N, .Z]
  | .decAbs => [.N, .Z]
  | .decAbx => [.N, .Z]
  | .inx => [.N, .Z]
  | .iny => [.N, .Z]
  | .dex => [.N, .Z]
  | .dey => [.N, .Z]
  | .ldaImm => [.N, .Z]
  | .ldaZp => [.N, .Z]
  | .ldaZpx => [.N, .Z]
  | .ldaAbs => [.N, .Z]
  | .ldaAbx => [.N, .Z]
  | .ldaAby => [.N, .Z]
  | .ldaIzx => [.N, .Z]
  | .ldaIzy => [.N, .Z]
  | .ldxImm => [.N, .Z]
  | .ldxZp => [.N, .Z]
  | .ldxZpy => [.N, .Z]
  | .ldxAbs => [.N, .Z]
  | .ldxAby => [.N, .Z]
  | .ldyImm => [.N, .Z]
  | .ldyZp => [.N, .Z]
  | .ldyZpx => [.N, .Z]
  | .ldyAbs => [.N, .Z]
  | .ldyAbx => [.N, .Z]
  | .staZp => []
  | .staZpx => []
  | .staAbs => []
  | .staAbx => []
  | .staAby => []
  | .staIzx => []
  | .staIzy => []
  | .stxZp => []
  | .stxZpy => []
  | .stxAbs => []
  | .styZp => []
  | .styZpx => []
  | .styAbs => []
  | .tax => [.N, .Z]
  | .tay => [.N, .Z]
  | .tsx => [.N, .Z]
  | .txa => [.N, .Z]
  | .tya => [.N, .Z]
  | .txs => []
  | .pha => []
  | .php => []
  | .pla => [.N, .Z]
  | .plp => [.N, .V, .B, .T, .D, .I, .Z, .C]
  | .bcc => []
  | .bcs => []
  | .beq => []
  | .bne => []
  | .bmi => []
  | .bpl => []
  | .bvc => []
  | .bvs => []
  | .jmpAbs => []
  | .jmpInd => []
  | .jsr => []
  | .rts => []
  | .rti => [.N, .V, .B, .T, .D, .I, .Z, .C]
  | .brk => [.I]
  | .clc => [.C]
  | .sec => [.C]
  | .cli => [.I]
  | .sei => [.I]
  | .clv => [.V]
  | .cld => [.D]
  | .sed => [.D]
  | .nop => []
  | .unmapped _ => []

/-- The instructions that write A (10_state.md R31). -/
def writesA : List Instr :=
  [.adcImm, .adcZp, .adcZpx, .adcAbs, .adcAbx, .adcAby, .adcIzx, .adcIzy, .sbcImm, .sbcZp,
   .sbcZpx, .sbcAbs, .sbcAbx, .sbcAby, .sbcIzx, .sbcIzy, .andImm, .andZp, .andZpx, .andAbs,
   .andAbx, .andAby, .andIzx, .andIzy, .oraImm, .oraZp, .oraZpx, .oraAbs, .oraAbx, .oraAby,
   .oraIzx, .oraIzy, .eorImm, .eorZp, .eorZpx, .eorAbs, .eorAbx, .eorAby, .eorIzx, .eorIzy,
   .aslAcc, .lsrAcc, .rolAcc, .rorAcc, .ldaImm, .ldaZp, .ldaZpx, .ldaAbs, .ldaAbx, .ldaAby,
   .ldaIzx, .ldaIzy, .txa, .tya, .pla]

/-- The instructions that write X (10_state.md R32). -/
def writesX : List Instr :=
  [.ldxImm, .ldxZp, .ldxZpy, .ldxAbs, .ldxAby, .tax, .tsx, .inx, .dex]

/-- The instructions that write Y (10_state.md R32). -/
def writesY : List Instr :=
  [.ldyImm, .ldyZp, .ldyZpx, .ldyAbs, .ldyAbx, .tay, .iny, .dey]

/-- The instructions that write S (10_state.md R33). -/
def writesS : List Instr :=
  [.txs, .pha, .php, .pla, .plp, .jsr, .rts, .rti, .brk]

/-- The instructions that store a register (45_load_store_transfer.md R293 to R295). -/
def storeInstrs : List Instr :=
  [.staZp, .staZpx, .staAbs, .staAbx, .staAby, .staIzx, .staIzy, .stxZp, .stxZpy, .stxAbs,
   .styZp, .styZpx, .styAbs]

/-- The read-modify-write instructions on memory (20_memory.md R74). -/
def modifyInstrs : List Instr :=
  [.aslZp, .aslZpx, .aslAbs, .aslAbx, .lsrZp, .lsrZpx, .lsrAbs, .lsrAbx, .rolZp, .rolZpx,
   .rolAbs, .rolAbx, .rorZp, .rorZpx, .rorAbs, .rorAbx, .incZp, .incZpx, .incAbs, .incAbx,
   .decZp, .decZpx, .decAbs, .decAbx]

/-- The instructions that push (46_stack_unit.md R323, R324; 47_control_transfer.md R351, R354). -/
def pushInstrs : List Instr := [.pha, .php, .jsr, .brk]

/-- The instructions whose rule sets PC itself (47_control_transfer.md). -/
def controlInstrs : List Instr :=
  [.bcc, .bcs, .beq, .bne, .bmi, .bpl, .bvc, .bvs, .jmpAbs, .jmpInd,
   .jsr, .rts, .rti, .brk]

/-! ### The trace -/

/-- Memory after the stores of a trace (newest event first) on a memory. -/
def replay : List Event → Memory → Memory
  | [], m => m
  | .write a v :: es, m => (replay es m).write a v
  | .read _ _ :: es, m => replay es m
  | .report _ _ :: es, m => replay es m

/-- Every read of a trace (newest event first) gives the byte last stored at its address, or the one in the memory the
trace starts from (20_memory.md R72, R78). -/
def coherent : List Event → Memory → Prop
  | [], _ => True
  | .read a v :: es, m => v = (replay es m).read a ∧ coherent es m
  | .write _ _ :: es, m => coherent es m
  | .report _ _ :: es, m => coherent es m

/-! ### Invariants and relations between states -/

/-- What holds at every boundary: memory in its canonical form, T = 1 (10_state.md R41), and reports of unmapped opcodes
only (40_dispatcher.md R126). -/
def Inv (s : State) : Prop :=
  s.mem.wf = true ∧ getFlag s.p .T = true ∧ ∀ op a, Event.report op a ∈ s.log → op ∈ unmappedOpcodes

/-- A boundary at which an iteration runs the instruction at PC: inside `run()`, no halt request, no NMI, and no IRQ that
I lets through (40_dispatcher.md R121 to R124). -/
def Quiet (s : State) : Prop :=
  s.running = true ∧ s.haltReq = false ∧ s.nmi = false ∧ (s.irq = false ∨ getFlag s.p .I = true)

/-- Two states that differ in the register's B bit only (10_state.md R40). -/
def SameButB (s t : State) : Prop :=
  t = { s with p := t.p } ∧ ∀ f, f ≠ Flag.B → getFlag t.p f = getFlag s.p f

/-- Two states on the flat RAM host (20_memory.md R78) that differ in `EXTRA_DUMMY_READS` and in the trace only
(00_scope.md R5). -/
def SameButDummyReads (s t : State) : Prop :=
  s.hostLoads = [] ∧ t.config.resetStackMode = s.config.resetStackMode ∧
  t = { s with config := t.config, log := t.log }

/-- Two runs end alike: both in a next state, and the states are related, or both stopped for the same reason. -/
def EndAlike (R : State → State → Prop) (o o' : Host.Outcome State Fault Refusal) : Prop :=
  match o, o' with
  | .next s, .next t => R s t
  | .refused r, .refused r' => r = r'
  | .fault r, .fault r' => r = r'
  | .next _, .fault _ => False
  | .next _, .refused _ => False
  | .fault _, .next _ => False
  | .fault _, .refused _ => False
  | .refused _, .next _ => False
  | .refused _, .fault _ => False

end Sys2Proof.Machine
end

