-- ==== Sys2Proof/Certificates/Slice0/Obligations.lean ====
section
/-! DEFINITION. The statements for the provers. A `Form` is an opcode byte, the instruction it decodes to and its
addressing mode: one row of an "Encoding" line of 43 to 47. -/

open Sys2Proof Sys2Proof.Machine

/-- One row of an instruction's "Encoding" line: opcode byte, instruction, addressing mode. -/
abbrev Sys2Proof.Form := Byte × Instr × Mode

/-- The power-on state holds the values of R51 (10_state.md R51). That the lines and the halt request start false
is the spec's own choice, 92_eei_decisions.md D9. -/
def Obligations.PowerOnHoldsTheSpecifiedValues : Prop :=
  State.powerOn.pc = 0x0000 ∧ State.powerOn.a = 0x00 ∧ State.powerOn.x = 0x00 ∧ State.powerOn.y = 0x00 ∧
  State.powerOn.sp = 0xFF ∧ State.powerOn.p = 0x34 ∧
  State.powerOn.nmi = false ∧ State.powerOn.irq = false ∧ State.powerOn.haltReq = false

/-- State.reset is power-on followed by the host calls reset() and run() (70_reset_and_hazards.md R451, R453,
R456, 10_state.md R51). That State.reset is this state is the model's choice, log entries 1 and 2. -/
def Obligations.ResetStateIsPowerOnThenBoot : Prop :=
  hostCall .reset State.powerOn = .next { State.reset with running := false } ∧
  hostCall .run { State.reset with running := false } = .next State.reset

/-- reset() in Push mode pushes PC and P, in NoWrite mode only lowers S; both set I and load the vector 0xFFFC
(70_reset_and_hazards.md R451, R452, R453). The modes, the dummy reads and what reset leaves alone are the
spec's own choices, 92_eei_decisions.md D2, D6, D7. -/
def Obligations.ResetRunsItsSequenceInBothModes : Prop :=
  ∀ s : State, s.running = false →
    (s.config.resetStackMode = .push →
      hostCall .reset s =
        .next (vectored 0xFFFC (entryPushed ((s.p &&& 0xEF) ||| 0x20)
          (s.afterReads (s.extra [s.pc, s.pc]) s.pc)))) ∧
    (s.config.resetStackMode = .noWrite →
      hostCall .reset s =
        .next (vectored 0xFFFC
          { s.afterReads
              (s.extra [s.pc, s.pc, stackAddr s.sp, stackAddr (s.sp - 1), stackAddr (s.sp - 2)]) s.pc with
            sp := s.sp - 3
            p := setFlag s.p .I true }))

/-- signal and halt set one bit; reset() and run() are refused inside run() (60_exceptions.md R402,
70_reset_and_hazards.md R450, R454, R455, 60_exceptions.md R418). That a step outside run() changes nothing
and that a second run() is refused are the model's choices, log entries 6 and 8; the refused reset() is the
spec's own choice, D7. -/
def Obligations.HostCallsHaveTheirEffects : Prop :=
  ∀ s : State,
    (∀ b, hostCall (.signal .NMI b) s = .next { s with nmi := b } ∧
      hostCall (.signal .IRQ b) s = .next { s with irq := b }) ∧
    hostCall .halt s = .next { s with haltReq := true } ∧
    (s.running = false → hostCall .run s = .next { s with running := true } ∧ step s = .next s) ∧
    (s.running = true →
      hostCall .reset s = .refused .resetDuringRun ∧ hostCall .run s = .refused .runDuringRun)

/-- At a quiet boundary a step is exec of the decoded opcode, one fetch later (40_dispatcher.md R120, R124, R125,
R128). -/
def Obligations.StepRunsTheDecodedInstruction : Prop :=
  ∀ (s : State) (i : Instr), Quiet s → decodeOpcode (s.answer 0 s.pc) = i →
    step s = exec i (s.afterReads [s.pc] (s.pc + 1))

/-- A pending NMI is entered first, whatever I and IRQ, and its handler runs in the same step (40_dispatcher.md
R122). That the entry's forcing leaves the register's B and T alone and its dummy reads are the spec's own
choices, 92_eei_decisions.md D11 and D2. -/
def Obligations.StepTakesNmiFirst : Prop :=
  ∀ s : State, s.running = true → s.haltReq = false → s.nmi = true →
    let t := { vectored 0xFFFA (entryPushed ((s.p &&& 0xEF) ||| 0x20)
      (s.afterReads (s.extra [s.pc, s.pc]) s.pc)) with nmi := false }
    step s = exec (decodeOpcode (t.answer 0 t.pc)) (t.afterReads [t.pc] (t.pc + 1))

/-- A pending IRQ is entered when I = 0 and no NMI is pending (40_dispatcher.md R123, R124, 60_exceptions.md R405,
R406, R408). That the entry's forcing leaves the register's B and T alone and its dummy reads are the spec's
own choices, 92_eei_decisions.md D11 and D2. -/
def Obligations.StepTakesIrqWhenNotMasked : Prop :=
  ∀ s : State, s.running = true → s.haltReq = false → s.nmi = false →
    getFlag s.p .I = false → s.irq = true →
    let t := { vectored 0xFFFE (entryPushed ((s.p &&& 0xEF) ||| 0x20)
      (s.afterReads (s.extra [s.pc, s.pc]) s.pc)) with irq := false }
    step s = exec (decodeOpcode (t.answer 0 t.pc)) (t.afterReads [t.pc] (t.pc + 1))

/-- A halt request ends run() before any poll, and is cleared (40_dispatcher.md R121). The place of the test and
the clearing are the spec's own choices, 92_eei_decisions.md D8. -/
def Obligations.HaltStopsBeforeThePoll : Prop :=
  ∀ s : State, s.running = true → s.haltReq = true →
    step s = .next { s with haltReq := false, running := false }

/-- No step faults and no step is refused, from any state (60_exceptions.md R400, 20_memory.md R70,
70_reset_and_hazards.md R454). That a step outside run() answers the same state is the model's choice, log
entry 6. -/
def Obligations.EveryStepAnswersANextState : Prop :=
  (∀ s : State, ∃ t, step s = .next t) ∧ ∀ (i : Instr) (s : State), ∃ t, exec i s = .next t

/-- Memory in canonical form, T = 1 and only unmapped opcodes reported, at power-on and at reset (10_state.md R41,
R51, 70_reset_and_hazards.md R451). State.reset and the empty memory are the model's choices, log entries 1
and 2. -/
def Obligations.InvariantHoldsAtPowerOnAndReset : Prop :=
  Inv State.powerOn ∧ Inv State.reset

/-- Every step keeps the canonical memory, T = 1 and truthful reports (10_state.md R41, 40_dispatcher.md R126,
20_memory.md R62). -/
def Obligations.EveryStepKeepsTheInvariant : Prop :=
  ∀ s t : State, Inv s → step s = .next t → Inv t

/-- Every mix of host calls and iterations keeps the invariant (10_state.md R41, 40_dispatcher.md R131,
60_exceptions.md R402, 70_reset_and_hazards.md R450). -/
def Obligations.EveryRunKeepsTheInvariant : Prop :=
  ∀ (as : List Action) (s t : State), Inv s → runActions as s = .next t → Inv t

/-- A step only adds to the trace, and memory changes exactly by the stores it adds (20_memory.md R60, R61, R72,
00_scope.md R13). -/
def Obligations.MemoryIsTheReplayOfTheTrace : Prop :=
  ∀ s t : State, step s = .next t → ∃ es, t.log = es ++ s.log ∧ t.mem = replay es s.mem

/-- On the flat RAM host every read of a step gives the byte last stored, even by the same step (20_memory.md R72,
R75, R78, 70_reset_and_hazards.md R458, R459). -/
def Obligations.FlatRamReadsSeeTheLastStore : Prop :=
  ∀ s t : State, s.hostLoads = [] → step s = .next t →
    t.hostLoads = [] ∧ ∃ es, t.log = es ++ s.log ∧ coherent es s.mem

/-- EXTRA_DUMMY_READS changes no register, flag, line or memory byte in any run on the flat RAM host (00_scope.md
R5, 92_eei_decisions.md D2). -/
def Obligations.DummyReadParameterChangesOnlyTheTrace : Prop :=
  ∀ (as : List Action) (s t : State), SameButDummyReads s t →
    EndAlike SameButDummyReads (runActions as s) (runActions as t)

/-- The register's B bit reaches no access, no report and no other register, in any run on any host (10_state.md
R40, R44, R45, R46, 93_implementation_defined.md U8). That only a pull changes the register's B bit is the
spec's own choice, 92_eei_decisions.md D11, log entries 10 and 11. -/
def Obligations.BreakBitOfTheRegisterIsUnobservable : Prop :=
  ∀ (as : List Action) (s t : State), SameButB s t →
    EndAlike SameButB (runActions as s) (runActions as t)

/-- A next state of any instruction has, with the opcode fetch, the bus accesses the table of R464 gives it
(70_reset_and_hazards.md R464, R465, 40_dispatcher.md R126). That decimal ADC and SBC issue no access of their
own is the spec's own choice, 92_eei_decisions.md D5. -/
def Obligations.AccessCountsAreThoseOfTheTable : Prop :=
  ∀ (i : Instr) (s t : State), exec i s = .next t →
    accesses t.log + 1 = accesses s.log + accessCount i s

/-- An instruction without a control transfer leaves PC at its opcode address plus its length (40_dispatcher.md
R129, 30_encoding.md R91, R96). -/
def Obligations.PcAdvancesByTheInstructionLength : Prop :=
  ∀ (i : Instr) (s t : State), i ∉ controlInstrs → exec i s = .next t →
    t.pc = s.pc + BitVec.ofNat 16 (i.length - 1)

/-- Flag frame: every instruction leaves every flag it is not said to write (10_state.md R36 to R43,
42_operations.md R197, 40_dispatcher.md R126). That PHP and BRK leave the register's B and T alone, and what
the instructions the source does not name (TXS, the flag instructions and others) write, are the spec's own
choices, 92_eei_decisions.md D11 and D16, log entries 10 and 11. -/
def Obligations.OnlyTheNamedFlagsChange : Prop :=
  ∀ (i : Instr) (s t : State), exec i s = .next t →
    ∀ f : Flag, f ∉ writtenFlags i → getFlag t.p f = getFlag s.p f

/-- Register frame: A, X, Y and S change only by the instructions R31 to R33 list (10_state.md R31, R32, R33).
What the instructions the source does not name (TXS, PHA, JSR, INX and others) write is the spec's own choice,
92_eei_decisions.md D16, log entry 10. -/
def Obligations.OnlyTheNamedRegistersChange : Prop :=
  ∀ (i : Instr) (s t : State), exec i s = .next t →
    (i ∉ writesA → t.a = s.a) ∧ (i ∉ writesX → t.x = s.x) ∧ (i ∉ writesY → t.y = s.y) ∧
    (i ∉ writesS → t.sp = s.sp)

/-- No instruction touches an interrupt line, the halt request, run() or a parameter (40_dispatcher.md R127,
10_state.md R48, R49, 00_scope.md R5, R6). -/
def Obligations.InstructionsLeaveLinesAndParametersAlone : Prop :=
  ∀ (i : Instr) (s t : State), exec i s = .next t →
    t.nmi = s.nmi ∧ t.irq = s.irq ∧ t.haltReq = s.haltReq ∧ t.running = s.running ∧
    t.config = s.config ∧ ∃ n, t.hostLoads = s.hostLoads.drop n

/-- Memory frame: an instruction that stores nothing leaves every byte (20_memory.md R71, 42_operations.md R180,
41_addressing_modes.md R163). -/
def Obligations.NonStoringInstructionsLeaveMemoryAlone : Prop :=
  ∀ (i : Instr) (s t : State), i ∉ storeInstrs → i ∉ modifyInstrs → i ∉ pushInstrs →
    exec i s = .next t → ∀ a, t.mem.read a = s.mem.read a

/-- Memory frame: a store or a read-modify-write changes only the byte at its effective address
(41_addressing_modes.md R143 to R162, 45_load_store_transfer.md R293, R294, R295, 44_rmw_instructions.md R260
to R265). STA, STX and STY, and that the pointer of (zp),Y wraps in the zero page, are the spec's own choices,
92_eei_decisions.md D16 and D4, log entry 10. -/
def Obligations.StoresChangeOnlyTheirEffectiveAddress : Prop :=
  ∀ (i : Instr) (s t : State), exec i s = .next t →
    (i ∈ storeInstrs → ∀ a, a ≠ s.ea .write i.mode → t.mem.read a = s.mem.read a) ∧
    (i ∈ modifyInstrs → ∀ a, a ≠ s.ea .modify i.mode → t.mem.read a = s.mem.read a)

/-- Memory frame: PHA and PHP change one stack byte, JSR two, BRK three (46_stack_unit.md R320, R323, R324,
47_control_transfer.md R351, R354, 60_exceptions.md R411). PHA and JSR are the spec's own choices,
92_eei_decisions.md D16, log entry 10. -/
def Obligations.PushesChangeOnlyTheirStackBytes : Prop :=
  ∀ s t : State,
    (exec .pha s = .next t ∨ exec .php s = .next t →
      ∀ a, a ≠ stackAddr s.sp → t.mem.read a = s.mem.read a) ∧
    (exec .jsr s = .next t →
      ∀ a, a ≠ stackAddr s.sp → a ≠ stackAddr (s.sp - 1) → t.mem.read a = s.mem.read a) ∧
    (exec .brk s = .next t →
      ∀ a, a ≠ stackAddr s.sp → a ≠ stackAddr (s.sp - 1) → a ≠ stackAddr (s.sp - 2) →
        t.mem.read a = s.mem.read a)

/-- ADC in all eight modes: binary sum, N Z C V when D = 0; no-op when D = 1 (43_alu_instructions.md R220,
42_operations.md R182, R183). That the decimal no-op issues no access of its own and that the pointer of
(zp),Y wraps in the zero page are the spec's own choices, 92_eei_decisions.md D5 and D4. -/
def Obligations.AdcAddsWithCarry : Prop :=
  ∀ f ∈ ([(0x69, .adcImm, .imm), (0x65, .adcZp, .zp), (0x75, .adcZpx, .zpx), (0x6D, .adcAbs, .abs),
     (0x7D, .adcAbx, .abx), (0x79, .adcAby, .aby), (0x61, .adcIzx, .izx), (0x71, .adcIzy, .izy)] : List Form),
    decodeOpcode f.1 = f.2.1 ∧ ∀ s : State,
      let v := s.operand .read f.2.2
      let sum := s.a.toNat + v.toNat + (getFlag s.p .C).toNat
      let r : Byte := BitVec.ofNat 8 sum
      exec f.2.1 s = .next
        (if getFlag s.p .D then s.afterOperand .read f.2.2
        else { s.afterOperand .read f.2.2 with
          a := r
          p := setFlags s.p [(.C, decide (sum > 255)),
            (.V, s.a.getLsbD 7 == v.getLsbD 7 && r.getLsbD 7 != s.a.getLsbD 7),
            (.N, r.getLsbD 7), (.Z, r == 0)] })

/-- SBC in all eight modes: difference, C = no borrow, V = signed overflow; no-op when D = 1
(43_alu_instructions.md R221, 42_operations.md R184). That the decimal no-op issues no access of its own and
that the pointer of (zp),Y wraps in the zero page are the spec's own choices, 92_eei_decisions.md D5 and D4. -/
def Obligations.SbcSubtractsWithBorrow : Prop :=
  ∀ f ∈ ([(0xE9, .sbcImm, .imm), (0xE5, .sbcZp, .zp), (0xF5, .sbcZpx, .zpx), (0xED, .sbcAbs, .abs),
     (0xFD, .sbcAbx, .abx), (0xF9, .sbcAby, .aby), (0xE1, .sbcIzx, .izx), (0xF1, .sbcIzy, .izy)] : List Form),
    decodeOpcode f.1 = f.2.1 ∧ ∀ s : State,
      let v := s.operand .read f.2.2
      let borrow : Int := if getFlag s.p .C then 0 else 1
      let r : Byte := BitVec.ofInt 8 ((s.a.toNat : Int) - v.toNat - borrow)
      let signed : Int := s.a.toInt - v.toInt - borrow
      exec f.2.1 s = .next
        (if getFlag s.p .D then s.afterOperand .read f.2.2
        else { s.afterOperand .read f.2.2 with
          a := r
          p := setFlags s.p [(.C, decide (0 ≤ (s.a.toNat : Int) - v.toNat - borrow)),
            (.V, decide (signed < -128 ∨ 127 < signed)), (.N, r.getLsbD 7), (.Z, r == 0)] })

/-- AND, ORA and EOR in all eight modes (43_alu_instructions.md R222, R223, R224, 42_operations.md R185, R186,
R187). That the pointer of (zp),Y wraps in the zero page is the spec's own choice, 92_eei_decisions.md D4. -/
def Obligations.LogicInstructionsCombineWithA : Prop :=
  (∀ f ∈ ([(0x29, .andImm, .imm), (0x25, .andZp, .zp), (0x35, .andZpx, .zpx), (0x2D, .andAbs, .abs),
      (0x3D, .andAbx, .abx), (0x39, .andAby, .aby), (0x21, .andIzx, .izx), (0x31, .andIzy, .izy)] : List Form),
    decodeOpcode f.1 = f.2.1 ∧ ∀ s : State,
      let r := s.a &&& s.operand .read f.2.2
      exec f.2.1 s = .next { s.afterOperand .read f.2.2 with
        a := r
        p := setFlags s.p [(.N, r.getLsbD 7), (.Z, r == 0)] }) ∧
  (∀ f ∈ ([(0x09, .oraImm, .imm), (0x05, .oraZp, .zp), (0x15, .oraZpx, .zpx), (0x0D, .oraAbs, .abs),
      (0x1D, .oraAbx, .abx), (0x19, .oraAby, .aby), (0x01, .oraIzx, .izx), (0x11, .oraIzy, .izy)] : List Form),
    decodeOpcode f.1 = f.2.1 ∧ ∀ s : State,
      let r := s.a ||| s.operand .read f.2.2
      exec f.2.1 s = .next { s.afterOperand .read f.2.2 with
        a := r
        p := setFlags s.p [(.N, r.getLsbD 7), (.Z, r == 0)] }) ∧
  (∀ f ∈ ([(0x49, .eorImm, .imm), (0x45, .eorZp, .zp), (0x55, .eorZpx, .zpx), (0x4D, .eorAbs, .abs),
      (0x5D, .eorAbx, .abx), (0x59, .eorAby, .aby), (0x41, .eorIzx, .izx), (0x51, .eorIzy, .izy)] : List Form),
    decodeOpcode f.1 = f.2.1 ∧ ∀ s : State,
      let r := s.a ^^^ s.operand .read f.2.2
      exec f.2.1 s = .next { s.afterOperand .read f.2.2 with
        a := r
        p := setFlags s.p [(.N, r.getLsbD 7), (.Z, r == 0)] })

/-- BIT sets N and V from the operand and Z from A & operand, and writes no register (R225, R192). -/
def Obligations.BitTestsWithoutWritingA : Prop :=
  ∀ f ∈ ([(0x24, .bitZp, .zp), (0x2C, .bitAbs, .abs)] : List Form),
    decodeOpcode f.1 = f.2.1 ∧ ∀ s : State,
      let v := s.operand .read f.2.2
      exec f.2.1 s = .next { s.afterOperand .read f.2.2 with
        p := setFlags s.p [(.N, v.getLsbD 7), (.V, v.getLsbD 6), (.Z, s.a &&& v == 0)] }

/-- CMP, CPX and CPY compare A, X and Y unsigned and write no register (43_alu_instructions.md R226, R227, R228,
42_operations.md R193). That the pointer of (zp),Y wraps in the zero page is the spec's own choice,
92_eei_decisions.md D4. -/
def Obligations.ComparesSetCarryZeroNegative : Prop :=
  (∀ f ∈ ([(0xC9, .cmpImm, .imm), (0xC5, .cmpZp, .zp), (0xD5, .cmpZpx, .zpx), (0xCD, .cmpAbs, .abs),
      (0xDD, .cmpAbx, .abx), (0xD9, .cmpAby, .aby), (0xC1, .cmpIzx, .izx), (0xD1, .cmpIzy, .izy)] : List Form),
    decodeOpcode f.1 = f.2.1 ∧ ∀ s : State,
      let v := s.operand .read f.2.2
      exec f.2.1 s = .next { s.afterOperand .read f.2.2 with
        p := setFlags s.p [(.C, decide (s.a.toNat ≥ v.toNat)), (.N, (s.a - v).getLsbD 7),
          (.Z, s.a == v)] }) ∧
  (∀ f ∈ ([(0xE0, .cpxImm, .imm), (0xE4, .cpxZp, .zp), (0xEC, .cpxAbs, .abs)] : List Form),
    decodeOpcode f.1 = f.2.1 ∧ ∀ s : State,
      let v := s.operand .read f.2.2
      exec f.2.1 s = .next { s.afterOperand .read f.2.2 with
        p := setFlags s.p [(.C, decide (s.x.toNat ≥ v.toNat)), (.N, (s.x - v).getLsbD 7),
          (.Z, s.x == v)] }) ∧
  (∀ f ∈ ([(0xC0, .cpyImm, .imm), (0xC4, .cpyZp, .zp), (0xCC, .cpyAbs, .abs)] : List Form),
    decodeOpcode f.1 = f.2.1 ∧ ∀ s : State,
      let v := s.operand .read f.2.2
      exec f.2.1 s = .next { s.afterOperand .read f.2.2 with
        p := setFlags s.p [(.C, decide (s.y.toNat ≥ v.toNat)), (.N, (s.y - v).getLsbD 7),
          (.Z, s.y == v)] })

/-- ASL and LSR on A and on memory: one bit out to C, 0 in, read, dummy write and write (R260, R261, R188, R189). -/
def Obligations.ShiftsMoveOneBitIntoCarry : Prop :=
  (∀ f ∈ ([(0x06, .aslZp, .zp), (0x16, .aslZpx, .zpx), (0x0E, .aslAbs, .abs), (0x1E, .aslAbx, .abx)] : List Form),
    decodeOpcode f.1 = f.2.1 ∧ ∀ s : State,
      let v := s.operand .modify f.2.2
      let r : Byte := v <<< 1
      exec f.2.1 s = .next (s.modified f.2.2 r (setFlags s.p [(.C, v.getLsbD 7), (.N, r.getLsbD 7), (.Z, r == 0)]))) ∧
  (decodeOpcode 0x0A = .aslAcc ∧ ∀ s : State,
      let r : Byte := s.a <<< 1
      exec .aslAcc s = .next { s with a := r, p := setFlags s.p [(.C, s.a.getLsbD 7), (.N, r.getLsbD 7), (.Z, r == 0)] }) ∧
  (∀ f ∈ ([(0x46, .lsrZp, .zp), (0x56, .lsrZpx, .zpx), (0x4E, .lsrAbs, .abs), (0x5E, .lsrAbx, .abx)] : List Form),
    decodeOpcode f.1 = f.2.1 ∧ ∀ s : State,
      let v := s.operand .modify f.2.2
      let r : Byte := v >>> 1
      exec f.2.1 s = .next (s.modified f.2.2 r (setFlags s.p [(.C, v.getLsbD 0), (.N, r.getLsbD 7), (.Z, r == 0)]))) ∧
  (decodeOpcode 0x4A = .lsrAcc ∧ ∀ s : State,
      let r : Byte := s.a >>> 1
      exec .lsrAcc s = .next { s with a := r, p := setFlags s.p [(.C, s.a.getLsbD 0), (.N, r.getLsbD 7), (.Z, r == 0)] })

/-- ROL and ROR on A and on memory: the old C comes in, the bit shifted out goes to C (R262, R263, R190, R191). -/
def Obligations.RotatesGoThroughCarry : Prop :=
  (∀ f ∈ ([(0x26, .rolZp, .zp), (0x36, .rolZpx, .zpx), (0x2E, .rolAbs, .abs), (0x3E, .rolAbx, .abx)] : List Form),
    decodeOpcode f.1 = f.2.1 ∧ ∀ s : State,
      let v := s.operand .modify f.2.2
      let r : Byte := v <<< 1 ||| (if getFlag s.p .C then 0x01 else 0x00)
      exec f.2.1 s = .next (s.modified f.2.2 r (setFlags s.p [(.C, v.getLsbD 7), (.N, r.getLsbD 7), (.Z, r == 0)]))) ∧
  (decodeOpcode 0x2A = .rolAcc ∧ ∀ s : State,
      let r : Byte := s.a <<< 1 ||| (if getFlag s.p .C then 0x01 else 0x00)
      exec .rolAcc s = .next { s with a := r, p := setFlags s.p [(.C, s.a.getLsbD 7), (.N, r.getLsbD 7), (.Z, r == 0)] }) ∧
  (∀ f ∈ ([(0x66, .rorZp, .zp), (0x76, .rorZpx, .zpx), (0x6E, .rorAbs, .abs), (0x7E, .rorAbx, .abx)] : List Form),
    decodeOpcode f.1 = f.2.1 ∧ ∀ s : State,
      let v := s.operand .modify f.2.2
      let r : Byte := v >>> 1 ||| (if getFlag s.p .C then 0x80 else 0x00)
      exec f.2.1 s = .next (s.modified f.2.2 r (setFlags s.p [(.C, v.getLsbD 0), (.N, r.getLsbD 7), (.Z, r == 0)]))) ∧
  (decodeOpcode 0x6A = .rorAcc ∧ ∀ s : State,
      let r : Byte := s.a >>> 1 ||| (if getFlag s.p .C then 0x80 else 0x00)
      exec .rorAcc s = .next { s with a := r, p := setFlags s.p [(.C, s.a.getLsbD 0), (.N, r.getLsbD 7), (.Z, r == 0)] })

/-- INC and DEC on memory wrap in 8 bits and write N and Z only (R264, R265). -/
def Obligations.IncAndDecChangeMemoryByOne : Prop :=
  (∀ f ∈ ([(0xE6, .incZp, .zp), (0xF6, .incZpx, .zpx), (0xEE, .incAbs, .abs), (0xFE, .incAbx, .abx)] : List Form),
    decodeOpcode f.1 = f.2.1 ∧ ∀ s : State,
      let v := s.operand .modify f.2.2
      let r : Byte := v + 1
      exec f.2.1 s = .next (s.modified f.2.2 r (setFlags s.p [(.N, r.getLsbD 7), (.Z, r == 0)]))) ∧
  (∀ f ∈ ([(0xC6, .decZp, .zp), (0xD6, .decZpx, .zpx), (0xCE, .decAbs, .abs), (0xDE, .decAbx, .abx)] : List Form),
    decodeOpcode f.1 = f.2.1 ∧ ∀ s : State,
      let v := s.operand .modify f.2.2
      let r : Byte := v - 1
      exec f.2.1 s = .next (s.modified f.2.2 r (setFlags s.p [(.N, r.getLsbD 7), (.Z, r == 0)])))

/-- INX, INY, DEX and DEY wrap in 8 bits and write N and Z only (44_rmw_instructions.md R266, R267, R268, R269).
These four instructions are the spec's own choice, 92_eei_decisions.md D16. -/
def Obligations.IndexStepsChangeOneRegisterByOne : Prop :=
  (decodeOpcode 0xE8 = .inx ∧ ∀ s : State, exec .inx s = .next
    { s.afterReads (s.extra [s.pc]) s.pc with x := s.x + 1, p := setFlags s.p [(.N, (s.x + 1).getLsbD 7), (.Z, s.x + 1 == 0)] }) ∧
  (decodeOpcode 0xC8 = .iny ∧ ∀ s : State, exec .iny s = .next
    { s.afterReads (s.extra [s.pc]) s.pc with y := s.y + 1, p := setFlags s.p [(.N, (s.y + 1).getLsbD 7), (.Z, s.y + 1 == 0)] }) ∧
  (decodeOpcode 0xCA = .dex ∧ ∀ s : State, exec .dex s = .next
    { s.afterReads (s.extra [s.pc]) s.pc with x := s.x - 1, p := setFlags s.p [(.N, (s.x - 1).getLsbD 7), (.Z, s.x - 1 == 0)] }) ∧
  (decodeOpcode 0x88 = .dey ∧ ∀ s : State, exec .dey s = .next
    { s.afterReads (s.extra [s.pc]) s.pc with y := s.y - 1, p := setFlags s.p [(.N, (s.y - 1).getLsbD 7), (.Z, s.y - 1 == 0)] })

/-- LDA, LDX and LDY in every mode (45_load_store_transfer.md R290, R291, R292). That the pointer of (zp),Y wraps
in the zero page is the spec's own choice, 92_eei_decisions.md D4. -/
def Obligations.LoadsCopyTheOperand : Prop :=
  (∀ f ∈ ([(0xA9, .ldaImm, .imm), (0xA5, .ldaZp, .zp), (0xB5, .ldaZpx, .zpx), (0xAD, .ldaAbs, .abs),
      (0xBD, .ldaAbx, .abx), (0xB9, .ldaAby, .aby), (0xA1, .ldaIzx, .izx), (0xB1, .ldaIzy, .izy)] : List Form),
    decodeOpcode f.1 = f.2.1 ∧ ∀ s : State,
      let v := s.operand .read f.2.2
      exec f.2.1 s = .next { s.afterOperand .read f.2.2 with
        a := v
        p := setFlags s.p [(.N, v.getLsbD 7), (.Z, v == 0)] }) ∧
  (∀ f ∈ ([(0xA2, .ldxImm, .imm), (0xA6, .ldxZp, .zp), (0xB6, .ldxZpy, .zpy), (0xAE, .ldxAbs, .abs),
      (0xBE, .ldxAby, .aby)] : List Form),
    decodeOpcode f.1 = f.2.1 ∧ ∀ s : State,
      let v := s.operand .read f.2.2
      exec f.2.1 s = .next { s.afterOperand .read f.2.2 with
        x := v
        p := setFlags s.p [(.N, v.getLsbD 7), (.Z, v == 0)] }) ∧
  (∀ f ∈ ([(0xA0, .ldyImm, .imm), (0xA4, .ldyZp, .zp), (0xB4, .ldyZpx, .zpx), (0xAC, .ldyAbs, .abs),
      (0xBC, .ldyAbx, .abx)] : List Form),
    decodeOpcode f.1 = f.2.1 ∧ ∀ s : State,
      let v := s.operand .read f.2.2
      exec f.2.1 s = .next { s.afterOperand .read f.2.2 with
        y := v
        p := setFlags s.p [(.N, v.getLsbD 7), (.Z, v == 0)] })

/-- STA, STX and STY in every mode, with the unconditional dummy read of the indexed ones
(45_load_store_transfer.md R293, R294, R295). These three instructions, and that the pointer of (zp),Y wraps
in the zero page, are the spec's own choices, 92_eei_decisions.md D16 and D4. -/
def Obligations.StoresWriteTheRegisterAtTheEffectiveAddress : Prop :=
  (∀ f ∈ ([(0x85, .staZp, .zp), (0x95, .staZpx, .zpx), (0x8D, .staAbs, .abs), (0x9D, .staAbx, .abx),
      (0x99, .staAby, .aby), (0x81, .staIzx, .izx), (0x91, .staIzy, .izy)] : List Form),
    decodeOpcode f.1 = f.2.1 ∧ ∀ s : State, exec f.2.1 s = .next (s.stored f.2.2 s.a)) ∧
  (∀ f ∈ ([(0x86, .stxZp, .zp), (0x96, .stxZpy, .zpy), (0x8E, .stxAbs, .abs)] : List Form),
    decodeOpcode f.1 = f.2.1 ∧ ∀ s : State, exec f.2.1 s = .next (s.stored f.2.2 s.x)) ∧
  (∀ f ∈ ([(0x84, .styZp, .zp), (0x94, .styZpx, .zpx), (0x8C, .styAbs, .abs)] : List Form),
    decodeOpcode f.1 = f.2.1 ∧ ∀ s : State, exec f.2.1 s = .next (s.stored f.2.2 s.y))

/-- TAX TAY TSX TXA TYA copy a register and set N and Z; TXS sets no flag (45_load_store_transfer.md R296, R297,
R298, R299, R300, R301). TXS is the spec's own choice, 92_eei_decisions.md D16. -/
def Obligations.TransfersCopyARegister : Prop :=
  (decodeOpcode 0xAA = .tax ∧ ∀ s : State, exec .tax s = .next
    { s.afterReads (s.extra [s.pc]) s.pc with x := s.a, p := setFlags s.p [(.N, (s.a).getLsbD 7), (.Z, s.a == 0)] }) ∧
  (decodeOpcode 0xA8 = .tay ∧ ∀ s : State, exec .tay s = .next
    { s.afterReads (s.extra [s.pc]) s.pc with y := s.a, p := setFlags s.p [(.N, (s.a).getLsbD 7), (.Z, s.a == 0)] }) ∧
  (decodeOpcode 0xBA = .tsx ∧ ∀ s : State, exec .tsx s = .next
    { s.afterReads (s.extra [s.pc]) s.pc with x := s.sp, p := setFlags s.p [(.N, (s.sp).getLsbD 7), (.Z, s.sp == 0)] }) ∧
  (decodeOpcode 0x8A = .txa ∧ ∀ s : State, exec .txa s = .next
    { s.afterReads (s.extra [s.pc]) s.pc with a := s.x, p := setFlags s.p [(.N, (s.x).getLsbD 7), (.Z, s.x == 0)] }) ∧
  (decodeOpcode 0x98 = .tya ∧ ∀ s : State, exec .tya s = .next
    { s.afterReads (s.extra [s.pc]) s.pc with a := s.y, p := setFlags s.p [(.N, (s.y).getLsbD 7), (.Z, s.y == 0)] }) ∧
  (decodeOpcode 0x9A = .txs ∧ ∀ s : State, exec .txs s = .next
    { s.afterReads (s.extra [s.pc]) s.pc with sp := s.x })

/-- PHA pushes A and PHP pushes P with B and T set; neither writes a flag (46_stack_unit.md R323, R324). That PHA
exists and pushes A, and that the forcing does not change the register, are the spec's own choices,
92_eei_decisions.md D16 and D11, log entry 10. -/
def Obligations.PhaAndPhpPushOneByte : Prop :=
  (decodeOpcode 0x48 = .pha ∧ ∀ s : State,
    let t : State := s.afterReads (s.extra [s.pc]) s.pc
    exec .pha s = .next { t with
      mem := s.mem.write (stackAddr s.sp) (s.a)
      sp := s.sp - 1
      log := .write (stackAddr s.sp) (s.a) :: t.log }) ∧
  (decodeOpcode 0x08 = .php ∧ ∀ s : State,
    let t : State := s.afterReads (s.extra [s.pc]) s.pc
    exec .php s = .next { t with
      mem := s.mem.write (stackAddr s.sp) (s.p ||| 0x30)
      sp := s.sp - 1
      log := .write (stackAddr s.sp) (s.p ||| 0x30) :: t.log })

/-- PLA pulls A and sets N and Z from it (R325). -/
def Obligations.PlaPullsAThroughLdx : Prop :=
  decodeOpcode 0x68 = .pla ∧ ∀ s : State,
    let d := s.extra [s.pc, stackAddr s.sp]
    let v := s.answer d.length (stackAddr (s.sp + 1))
    exec .pla s = .next { s.afterReads (d ++ [stackAddr (s.sp + 1)]) s.pc with
      sp := s.sp + 1
      a := v
      p := setFlags s.p [(.N, v.getLsbD 7), (.Z, v == 0)] }

/-- PLP pulls P with B = 0 and T = 1 (46_stack_unit.md R326). -/
def Obligations.PlpPullsPWithItsForcing : Prop :=
  decodeOpcode 0x28 = .plp ∧ ∀ s : State,
    let d := s.extra [s.pc, stackAddr s.sp]
    let v := s.answer d.length (stackAddr (s.sp + 1))
    exec .plp s = .next { s.afterReads (d ++ [stackAddr (s.sp + 1)]) s.pc with
      sp := s.sp + 1
      p := (v &&& 0xEF) ||| 0x20 }

/-- The eight branches: condition, target modulo 2^16, and the two dummy reads of a taken branch
(47_control_transfer.md R340, R341, R342, R343, R344, R345, R346, R347, R348, 41_addressing_modes.md R164).
The conditions and the addresses of the dummy reads are the spec's own choices, 92_eei_decisions.md D16 and
D3. -/
def Obligations.BranchesGoWhereTheirFlagSays : Prop :=
  ∀ f ∈ ([(0x10, .bpl, .N, false), (0x30, .bmi, .N, true), (0x50, .bvc, .V, false), (0x70, .bvs, .V, true),
    (0x90, .bcc, .C, false), (0xB0, .bcs, .C, true), (0xD0, .bne, .Z, false), (0xF0, .beq, .Z, true)] : List (Byte × Instr × Flag × Bool)),
    decodeOpcode f.1 = f.2.1 ∧ ∀ s : State,
      exec f.2.1 s = .next
        (if getFlag s.p f.2.2.1 = f.2.2.2 then s.afterReads s.takenReads s.branchTarget
        else s.afterReads [s.pc] (s.pc + 1))

/-- JMP absolute, and JMP indirect with the pointer wrapping inside its page (47_control_transfer.md R349, R350,
41_addressing_modes.md R165). JMP absolute is the spec's own choice, 92_eei_decisions.md D16. -/
def Obligations.JumpsLoadPc : Prop :=
  (decodeOpcode 0x4C = .jmpAbs ∧ ∀ s : State,
    exec .jmpAbs s = .next (s.afterReads [s.pc, s.pc + 1] s.absOperand)) ∧
  (decodeOpcode 0x6C = .jmpInd ∧ ∀ s : State,
    let next := cat (hiByte s.absOperand) (loByte s.absOperand + 1)
    exec .jmpInd s = .next (s.afterReads [s.pc, s.pc + 1, s.absOperand, next]
      (cat (s.answer 3 next) (s.answer 2 s.absOperand))))

/-- JSR fetches the low target byte, pushes the address of its last byte, then fetches the high byte
(47_control_transfer.md R351). The instruction and its order of accesses are the spec's own choice,
92_eei_decisions.md D16 and D17. -/
def Obligations.JsrPushesTheAddressOfItsLastByte : Prop :=
  decodeOpcode 0x20 = .jsr ∧ ∀ s : State,
    let s1 : State := s.afterReads ([s.pc] ++ s.extra [stackAddr s.sp]) (s.pc + 1)
    let s2 : State := { s1 with
      mem := (s.mem.write (stackAddr s.sp) (hiByte (s.pc + 1))).write (stackAddr (s.sp - 1))
        (loByte (s.pc + 1))
      sp := s.sp - 2
      log := [.write (stackAddr (s.sp - 1)) (loByte (s.pc + 1)),
        .write (stackAddr s.sp) (hiByte (s.pc + 1))] ++ s1.log }
    exec .jsr s = .next
      (s2.afterReads [s.pc + 1] (cat (s2.answer 0 (s.pc + 1)) (s.answer 0 s.pc)))

/-- RTS pulls an address, low byte first, and goes to it plus 1 (47_control_transfer.md R352). The instruction and
its order of accesses are the spec's own choice, 92_eei_decisions.md D16 and D17. -/
def Obligations.RtsReturnsPastThePulledAddress : Prop :=
  decodeOpcode 0x60 = .rts ∧ ∀ s : State,
    let d := s.extra [s.pc, stackAddr s.sp]
    let lo := s.answer d.length (stackAddr (s.sp + 1))
    let hi := s.answer (d.length + 1) (stackAddr (s.sp + 2))
    exec .rts s = .next
      { s.afterReads (d ++ [stackAddr (s.sp + 1), stackAddr (s.sp + 2)] ++ s.extra [cat hi lo])
          (cat hi lo + 1) with
        sp := s.sp + 2 }

/-- RTI pulls P with its forcing and then PC, with no adjustment (47_control_transfer.md R353). The instruction
and its order of accesses are the spec's own choice, 92_eei_decisions.md D16 and D17. -/
def Obligations.RtiRestoresPAndPc : Prop :=
  decodeOpcode 0x40 = .rti ∧ ∀ s : State,
    let d := s.extra [s.pc, stackAddr s.sp]
    let v := s.answer d.length (stackAddr (s.sp + 1))
    let lo := s.answer (d.length + 1) (stackAddr (s.sp + 2))
    let hi := s.answer (d.length + 2) (stackAddr (s.sp + 3))
    exec .rti s = .next
      { s.afterReads (d ++ [stackAddr (s.sp + 1), stackAddr (s.sp + 2), stackAddr (s.sp + 3)])
          (cat hi lo) with
        sp := s.sp + 3
        p := (v &&& 0xEF) ||| 0x20 }

/-- BRK fetches its padding byte, pushes PC and P | 0x30, sets I and goes to the vector at 0xFFFE
(47_control_transfer.md R354, 60_exceptions.md R409). That the forcing does not change the register is the
spec's own choice, 92_eei_decisions.md D11. -/
def Obligations.BrkEntersOnTheSoftwarePath : Prop :=
  decodeOpcode 0x00 = .brk ∧ ∀ s : State,
    exec .brk s = .next
      (vectored 0xFFFE (entryPushed (s.p ||| 0x30) (s.afterReads [s.pc] (s.pc + 1))))

/-- CLC SEC CLI SEI CLV CLD SED set one flag, and NOP none (48_flags_misc.md R370, R371, R372, R373, R374, R375,
R376, R377). The existence, the opcodes and the effects of these eight instructions are the spec's own choice,
92_eei_decisions.md D16, log entry 10. -/
def Obligations.FlagInstructionsSetOneFlag : Prop :=
  (∀ f ∈ ([(0x18, .clc, .C, false), (0x38, .sec, .C, true), (0x58, .cli, .I, false), (0x78, .sei, .I, true),
    (0xB8, .clv, .V, false), (0xD8, .cld, .D, false), (0xF8, .sed, .D, true)] : List (Byte × Instr × Flag × Bool)),
    decodeOpcode f.1 = f.2.1 ∧ ∀ s : State,
      exec f.2.1 s = .next { s.afterReads (s.extra [s.pc]) s.pc with
        p := setFlag s.p f.2.2.1 f.2.2.2 }) ∧
  (decodeOpcode 0xEA = .nop ∧ ∀ s : State,
    exec .nop s = .next (s.afterReads (s.extra [s.pc]) s.pc))

/-- An unmapped opcode is reported with its address; nothing changes but PC (40_dispatcher.md R126). The form of
the report is the spec's own choice, 92_eei_decisions.md D12. -/
def Obligations.UnmappedOpcodesAreReportedAndSkipped : Prop :=
  ∀ op ∈ unmappedOpcodes,
    decodeOpcode op = .unmapped op ∧
    (∀ s : State, exec (.unmapped op) s = .next { s with log := .report op (s.pc - 1) :: s.log }) ∧
    ∀ s : State, Quiet s → s.answer 0 s.pc = op →
      step s = .next { s with
        pc := s.pc + 1
        hostLoads := s.hostLoads.tail
        log := [.report op s.pc, .read s.pc op] ++ s.log }

/-- After ADC, C is the unsigned and V the signed overflow, and the 9-bit sum is right (42_operations.md R182,
95_test_vectors.md L1.1). -/
def Obligations.AdcOverflowIsSignedOverflow : Prop :=
  ∀ v slot a p : Byte, getFlag p .D = false →
    (Operation.adc.apply v slot a p).1.toNat + (getFlag (Operation.adc.apply v slot a p).2 .C).toNat * 256 =
      a.toNat + v.toNat + (getFlag p .C).toNat ∧
    (getFlag (Operation.adc.apply v slot a p).2 .V = true ↔
      a.toInt + v.toInt + (getFlag p .C).toNat < -128 ∨ 127 < a.toInt + v.toInt + (getFlag p .C).toNat)

/-- C Z I D B T V N are bits 0 to 7 of P, and setting one leaves the others (R35). -/
def Obligations.FlagsStandAtTheirBits : Prop :=
  State.powerOn.p = 0x34 ∧ ∀ p : Byte,
    [getFlag p .C, getFlag p .Z, getFlag p .I, getFlag p .D, getFlag p .B, getFlag p .T, getFlag p .V,
        getFlag p .N] = (List.range 8).map p.getLsbD ∧
    ∀ (f g : Flag) (b : Bool), getFlag (setFlag p f b) g = if g = f then b else getFlag p g

/-- The spec's example encodings decode to their instructions (30_encoding.md R91, R94, R98). The numbering of the
opcodes is the spec's own choice, 92_eei_decisions.md D1. -/
def Obligations.SpecWordsDecode : Prop :=
  decode [0xE8] = .ok (.inx, [], []) ∧
  decode [0x0A, 0xFF] = .ok (.aslAcc, [], [0xFF]) ∧
  decode [0xA9, 0xFF] = .ok (.ldaImm, [0xFF], []) ∧
  decode [0xA5, 0x10] = .ok (.ldaZp, [0x10], []) ∧
  decode [0xB6, 0x10] = .ok (.ldxZpy, [0x10], []) ∧
  decode [0x4C, 0x00, 0x20] = .ok (.jmpAbs, [0x00, 0x20], []) ∧
  decode [0xBD, 0xF0, 0x20, 0xEA] = .ok (.ldaAbx, [0xF0, 0x20], [0xEA]) ∧
  decode [0xA1, 0x40] = .ok (.ldaIzx, [0x40], []) ∧
  decode [0x91, 0x40] = .ok (.staIzy, [0x40], []) ∧
  decode [0x6C, 0xFF, 0x30] = .ok (.jmpInd, [0xFF, 0x30], []) ∧
  decode [0xD0, 0xFE] = .ok (.bne, [0xFE], []) ∧
  decode [0x48] = .ok (.pha, [], []) ∧
  decode [0x7D, 0xFF, 0x0F] = .ok (.adcAbx, [0xFF, 0x0F], []) ∧
  decode [0x02, 0x03] = .ok (.unmapped 0x02, [], [0x03]) ∧
  decode [] = .error .noOpcode ∧
  decode [0xBD, 0xF0] = .error (.missingOperand 0xBD)

/-- Every byte decodes to a well-formed instruction whose opcode is that byte; 105 are unmapped (30_encoding.md
R90, R93, R95). The numbering of the opcodes is the spec's own choice, 92_eei_decisions.md D1. -/
def Obligations.EveryByteIsOneInstruction : Prop :=
  ∀ op : Byte, (decodeOpcode op).wellFormed = true ∧ opcodeOf (decodeOpcode op) = op ∧
    (decodeOpcode op = .unmapped op ↔ op ∈ unmappedOpcodes)

/-- Decoding an encoded instruction gives it back with every operand byte and whatever follows (30_encoding.md
R90, R91, R93, R96). -/
def Obligations.DecodeOfEncodeIsTheInstruction : Prop :=
  ∀ (i : Instr) (operands rest : List Byte), i.wellFormed = true →
    (operands.length = i.length - 1 → decode (encode i operands ++ rest) = .ok (i, operands, rest)) ∧
    (operands.length < i.length - 1 → decode (encode i operands) = .error (.missingOperand (opcodeOf i)))

/-- 256 pushes from S = 0xFF fill page 1 in order and bring S back; single wraps at 0x00 and 0xFF (R322). -/
def Obligations.StackWrapsInsidePageOne : Prop :=
  (∀ (s : State) (vs : List Byte), s.mem.wf = true → s.sp = 0xFF → vs.length = 256 →
    let t := vs.foldl (fun u v => push v u) s
    t.sp = 0xFF ∧ ∀ k < 256, t.mem.read (0x01FF - BitVec.ofNat 16 k) = vs.getD k 0) ∧
  (∀ (s : State) (v : Byte), s.sp = 0x00 → (push v s).sp = 0xFF ∧ (push v s).mem = s.mem.write 0x0100 v) ∧
  (∀ s : State, s.sp = 0xFF → (pull s).1 = s.answer 0 0x0100 ∧ (pull s).2.sp = 0x00)

/-- PLP of v, then PHP, pushes v | 0x30 where v was (10_state.md R44, R46, 95_test_vectors.md L1.6,
90_conflicts.md C4). -/
def Obligations.PlpThenPhpPushesTheByteWithBAndTSet : Prop :=
  ∀ s : State, s.hostLoads = [] → s.mem.wf = true →
    ∃ t u, exec .plp s = .next t ∧ exec .php t = .next u ∧ u.sp = s.sp ∧
      (∀ a, u.mem.read a =
        if a = stackAddr (s.sp + 1) then s.mem.read (stackAddr (s.sp + 1)) ||| 0x30 else s.mem.read a)

/-- RTS with the stack as JSR left it returns to the instruction after the JSR (47_control_transfer.md R351, R352,
20_memory.md R68). Both instructions are the spec's own choice, 92_eei_decisions.md D16 and D17. -/
def Obligations.RtsReturnsFromJsr : Prop :=
  ∀ s : State, s.mem.wf = true →
    ∃ t, exec .jsr s = .next t ∧
      ∀ w : State, w.hostLoads = [] → w.sp = t.sp →
        w.mem.read (stackAddr s.sp) = t.mem.read (stackAddr s.sp) →
        w.mem.read (stackAddr (s.sp - 1)) = t.mem.read (stackAddr (s.sp - 1)) →
        ∃ u, exec .rts w = .next u ∧ u.pc = s.pc + 2 ∧ u.sp = s.sp

/-- RTI with the stack as BRK left it resumes past the padding byte with the flags as they were
(47_control_transfer.md R353, R354, 60_exceptions.md R411, R414, 10_state.md R44, R46). RTI is the spec's own
choice, 92_eei_decisions.md D16 and D17. -/
def Obligations.RtiReturnsFromBrk : Prop :=
  ∀ s : State, s.mem.wf = true →
    ∃ t, exec .brk s = .next t ∧
      ∀ w : State, w.hostLoads = [] → w.sp = t.sp →
        (∀ k < 3, w.mem.read (stackAddr (s.sp - BitVec.ofNat 8 k)) =
          t.mem.read (stackAddr (s.sp - BitVec.ofNat 8 k))) →
        ∃ u, exec .rti w = .next u ∧ u.pc = s.pc + 1 ∧ u.sp = s.sp ∧ u.p = (s.p &&& 0xEF) ||| 0x20
end

