-- ==== Sys2Proof/Laws/State.lean ====
section
/-! SUPPORT. One lemma per field per named update of State, so that no later proof unfolds one. -/

namespace Sys2Proof.Machine

/-! ### One bus read -/
@[simp] theorem busRead_a (a : Addr) (s : State) : ((busRead a s).2).a = s.a := rfl
@[simp] theorem busRead_x (a : Addr) (s : State) : ((busRead a s).2).x = s.x := rfl
@[simp] theorem busRead_y (a : Addr) (s : State) : ((busRead a s).2).y = s.y := rfl
@[simp] theorem busRead_sp (a : Addr) (s : State) : ((busRead a s).2).sp = s.sp := rfl
@[simp] theorem busRead_p (a : Addr) (s : State) : ((busRead a s).2).p = s.p := rfl
@[simp] theorem busRead_pc (a : Addr) (s : State) : ((busRead a s).2).pc = s.pc := rfl
@[simp] theorem busRead_nmi (a : Addr) (s : State) : ((busRead a s).2).nmi = s.nmi := rfl
@[simp] theorem busRead_irq (a : Addr) (s : State) : ((busRead a s).2).irq = s.irq := rfl
@[simp] theorem busRead_haltReq (a : Addr) (s : State) : ((busRead a s).2).haltReq = s.haltReq := rfl
@[simp] theorem busRead_running (a : Addr) (s : State) : ((busRead a s).2).running = s.running := rfl
@[simp] theorem busRead_mem (a : Addr) (s : State) : ((busRead a s).2).mem = s.mem := rfl
@[simp] theorem busRead_hostLoads (a : Addr) (s : State) : ((busRead a s).2).hostLoads = s.hostLoads.tail := rfl
@[simp] theorem busRead_log (a : Addr) (s : State) : ((busRead a s).2).log = .read a (s.loadByte a) :: s.log := rfl
@[simp] theorem busRead_config (a : Addr) (s : State) : ((busRead a s).2).config = s.config := rfl

@[simp] theorem busRead_value (a : Addr) (s : State) : (busRead a s).1 = s.loadByte a := rfl

/-! ### One bus write -/
@[simp] theorem busWrite_a (a : Addr) (v : Byte) (s : State) : (busWrite a v s).a = s.a := rfl
@[simp] theorem busWrite_x (a : Addr) (v : Byte) (s : State) : (busWrite a v s).x = s.x := rfl
@[simp] theorem busWrite_y (a : Addr) (v : Byte) (s : State) : (busWrite a v s).y = s.y := rfl
@[simp] theorem busWrite_sp (a : Addr) (v : Byte) (s : State) : (busWrite a v s).sp = s.sp := rfl
@[simp] theorem busWrite_p (a : Addr) (v : Byte) (s : State) : (busWrite a v s).p = s.p := rfl
@[simp] theorem busWrite_pc (a : Addr) (v : Byte) (s : State) : (busWrite a v s).pc = s.pc := rfl
@[simp] theorem busWrite_nmi (a : Addr) (v : Byte) (s : State) : (busWrite a v s).nmi = s.nmi := rfl
@[simp] theorem busWrite_irq (a : Addr) (v : Byte) (s : State) : (busWrite a v s).irq = s.irq := rfl
@[simp] theorem busWrite_haltReq (a : Addr) (v : Byte) (s : State) : (busWrite a v s).haltReq = s.haltReq := rfl
@[simp] theorem busWrite_running (a : Addr) (v : Byte) (s : State) : (busWrite a v s).running = s.running := rfl
@[simp] theorem busWrite_mem (a : Addr) (v : Byte) (s : State) : (busWrite a v s).mem = s.mem.write a v := rfl
@[simp] theorem busWrite_hostLoads (a : Addr) (v : Byte) (s : State) : (busWrite a v s).hostLoads = s.hostLoads := rfl
@[simp] theorem busWrite_log (a : Addr) (v : Byte) (s : State) : (busWrite a v s).log = .write a v :: s.log := rfl
@[simp] theorem busWrite_config (a : Addr) (v : Byte) (s : State) : (busWrite a v s).config = s.config := rfl

/-! ### One fetch -/
@[simp] theorem fetch_a (s : State) : ((fetch s).2).a = s.a := rfl
@[simp] theorem fetch_x (s : State) : ((fetch s).2).x = s.x := rfl
@[simp] theorem fetch_y (s : State) : ((fetch s).2).y = s.y := rfl
@[simp] theorem fetch_sp (s : State) : ((fetch s).2).sp = s.sp := rfl
@[simp] theorem fetch_p (s : State) : ((fetch s).2).p = s.p := rfl
@[simp] theorem fetch_pc (s : State) : ((fetch s).2).pc = s.pc + 1 := rfl
@[simp] theorem fetch_nmi (s : State) : ((fetch s).2).nmi = s.nmi := rfl
@[simp] theorem fetch_irq (s : State) : ((fetch s).2).irq = s.irq := rfl
@[simp] theorem fetch_haltReq (s : State) : ((fetch s).2).haltReq = s.haltReq := rfl
@[simp] theorem fetch_running (s : State) : ((fetch s).2).running = s.running := rfl
@[simp] theorem fetch_mem (s : State) : ((fetch s).2).mem = s.mem := rfl
@[simp] theorem fetch_hostLoads (s : State) : ((fetch s).2).hostLoads = s.hostLoads.tail := rfl
@[simp] theorem fetch_log (s : State) : ((fetch s).2).log = .read s.pc (s.loadByte s.pc) :: s.log := rfl
@[simp] theorem fetch_config (s : State) : ((fetch s).2).config = s.config := rfl

@[simp] theorem fetch_value (s : State) : (fetch s).1 = s.loadByte s.pc := rfl

/-! ### One push -/
@[simp] theorem push_a (v : Byte) (s : State) : (push v s).a = s.a := rfl
@[simp] theorem push_x (v : Byte) (s : State) : (push v s).x = s.x := rfl
@[simp] theorem push_y (v : Byte) (s : State) : (push v s).y = s.y := rfl
@[simp] theorem push_sp (v : Byte) (s : State) : (push v s).sp = s.sp - 1 := rfl
@[simp] theorem push_p (v : Byte) (s : State) : (push v s).p = s.p := rfl
@[simp] theorem push_pc (v : Byte) (s : State) : (push v s).pc = s.pc := rfl
@[simp] theorem push_nmi (v : Byte) (s : State) : (push v s).nmi = s.nmi := rfl
@[simp] theorem push_irq (v : Byte) (s : State) : (push v s).irq = s.irq := rfl
@[simp] theorem push_haltReq (v : Byte) (s : State) : (push v s).haltReq = s.haltReq := rfl
@[simp] theorem push_running (v : Byte) (s : State) : (push v s).running = s.running := rfl
@[simp] theorem push_mem (v : Byte) (s : State) : (push v s).mem = s.mem.write (stackAddr s.sp) v := rfl
@[simp] theorem push_hostLoads (v : Byte) (s : State) : (push v s).hostLoads = s.hostLoads := rfl
@[simp] theorem push_log (v : Byte) (s : State) : (push v s).log = .write (stackAddr s.sp) v :: s.log := rfl
@[simp] theorem push_config (v : Byte) (s : State) : (push v s).config = s.config := rfl

/-! ### One pull -/
@[simp] theorem pull_a (s : State) : ((pull s).2).a = s.a := rfl
@[simp] theorem pull_x (s : State) : ((pull s).2).x = s.x := rfl
@[simp] theorem pull_y (s : State) : ((pull s).2).y = s.y := rfl
@[simp] theorem pull_sp (s : State) : ((pull s).2).sp = s.sp + 1 := rfl
@[simp] theorem pull_p (s : State) : ((pull s).2).p = s.p := rfl
@[simp] theorem pull_pc (s : State) : ((pull s).2).pc = s.pc := rfl
@[simp] theorem pull_nmi (s : State) : ((pull s).2).nmi = s.nmi := rfl
@[simp] theorem pull_irq (s : State) : ((pull s).2).irq = s.irq := rfl
@[simp] theorem pull_haltReq (s : State) : ((pull s).2).haltReq = s.haltReq := rfl
@[simp] theorem pull_running (s : State) : ((pull s).2).running = s.running := rfl
@[simp] theorem pull_mem (s : State) : ((pull s).2).mem = s.mem := rfl
@[simp] theorem pull_hostLoads (s : State) : ((pull s).2).hostLoads = s.hostLoads.tail := rfl
@[simp] theorem pull_log (s : State) : ((pull s).2).log = .read (stackAddr (s.sp + 1)) (s.loadByte (stackAddr (s.sp + 1))) :: s.log := rfl
@[simp] theorem pull_config (s : State) : ((pull s).2).config = s.config := rfl

@[simp] theorem pull_value (s : State) : (pull s).1 = s.loadByte (stackAddr (s.sp + 1)) := rfl

/-! ### One report -/
@[simp] theorem report_a (op : Byte) (a : Addr) (s : State) : (report op a s).a = s.a := rfl
@[simp] theorem report_x (op : Byte) (a : Addr) (s : State) : (report op a s).x = s.x := rfl
@[simp] theorem report_y (op : Byte) (a : Addr) (s : State) : (report op a s).y = s.y := rfl
@[simp] theorem report_sp (op : Byte) (a : Addr) (s : State) : (report op a s).sp = s.sp := rfl
@[simp] theorem report_p (op : Byte) (a : Addr) (s : State) : (report op a s).p = s.p := rfl
@[simp] theorem report_pc (op : Byte) (a : Addr) (s : State) : (report op a s).pc = s.pc := rfl
@[simp] theorem report_nmi (op : Byte) (a : Addr) (s : State) : (report op a s).nmi = s.nmi := rfl
@[simp] theorem report_irq (op : Byte) (a : Addr) (s : State) : (report op a s).irq = s.irq := rfl
@[simp] theorem report_haltReq (op : Byte) (a : Addr) (s : State) : (report op a s).haltReq = s.haltReq := rfl
@[simp] theorem report_running (op : Byte) (a : Addr) (s : State) : (report op a s).running = s.running := rfl
@[simp] theorem report_mem (op : Byte) (a : Addr) (s : State) : (report op a s).mem = s.mem := rfl
@[simp] theorem report_hostLoads (op : Byte) (a : Addr) (s : State) : (report op a s).hostLoads = s.hostLoads := rfl
@[simp] theorem report_log (op : Byte) (a : Addr) (s : State) : (report op a s).log = .report op a :: s.log := rfl
@[simp] theorem report_config (op : Byte) (a : Addr) (s : State) : (report op a s).config = s.config := rfl

/-! ### One register write -/
@[simp] theorem setReg_sp (r : RegName) (v : Byte) (s : State) : (s.setReg r v).sp = s.sp := by cases r <;> rfl
@[simp] theorem setReg_p (r : RegName) (v : Byte) (s : State) : (s.setReg r v).p = s.p := by cases r <;> rfl
@[simp] theorem setReg_pc (r : RegName) (v : Byte) (s : State) : (s.setReg r v).pc = s.pc := by cases r <;> rfl
@[simp] theorem setReg_nmi (r : RegName) (v : Byte) (s : State) : (s.setReg r v).nmi = s.nmi := by cases r <;> rfl
@[simp] theorem setReg_irq (r : RegName) (v : Byte) (s : State) : (s.setReg r v).irq = s.irq := by cases r <;> rfl
@[simp] theorem setReg_haltReq (r : RegName) (v : Byte) (s : State) : (s.setReg r v).haltReq = s.haltReq := by cases r <;> rfl
@[simp] theorem setReg_running (r : RegName) (v : Byte) (s : State) : (s.setReg r v).running = s.running := by cases r <;> rfl
@[simp] theorem setReg_mem (r : RegName) (v : Byte) (s : State) : (s.setReg r v).mem = s.mem := by cases r <;> rfl
@[simp] theorem setReg_hostLoads (r : RegName) (v : Byte) (s : State) : (s.setReg r v).hostLoads = s.hostLoads := by cases r <;> rfl
@[simp] theorem setReg_log (r : RegName) (v : Byte) (s : State) : (s.setReg r v).log = s.log := by cases r <;> rfl
@[simp] theorem setReg_config (r : RegName) (v : Byte) (s : State) : (s.setReg r v).config = s.config := by cases r <;> rfl

@[simp] theorem setReg_A (v : Byte) (s : State) : s.setReg .A v = { s with a := v } := rfl
@[simp] theorem setReg_X (v : Byte) (s : State) : s.setReg .X v = { s with x := v } := rfl
@[simp] theorem setReg_Y (v : Byte) (s : State) : s.setReg .Y v = { s with y := v } := rfl
@[simp] theorem getReg_A (s : State) : s.getReg .A = s.a := rfl
@[simp] theorem getReg_X (s : State) : s.getReg .X = s.x := rfl
@[simp] theorem getReg_Y (s : State) : s.getReg .Y = s.y := rfl

/-! ### Loads in a row -/
@[simp] theorem afterReads_a (as : List Addr) (c : Addr) (s : State) : (s.afterReads as c).a = s.a := rfl
@[simp] theorem afterReads_x (as : List Addr) (c : Addr) (s : State) : (s.afterReads as c).x = s.x := rfl
@[simp] theorem afterReads_y (as : List Addr) (c : Addr) (s : State) : (s.afterReads as c).y = s.y := rfl
@[simp] theorem afterReads_sp (as : List Addr) (c : Addr) (s : State) : (s.afterReads as c).sp = s.sp := rfl
@[simp] theorem afterReads_p (as : List Addr) (c : Addr) (s : State) : (s.afterReads as c).p = s.p := rfl
@[simp] theorem afterReads_pc (as : List Addr) (c : Addr) (s : State) : (s.afterReads as c).pc = c := rfl
@[simp] theorem afterReads_nmi (as : List Addr) (c : Addr) (s : State) : (s.afterReads as c).nmi = s.nmi := rfl
@[simp] theorem afterReads_irq (as : List Addr) (c : Addr) (s : State) : (s.afterReads as c).irq = s.irq := rfl
@[simp] theorem afterReads_haltReq (as : List Addr) (c : Addr) (s : State) : (s.afterReads as c).haltReq = s.haltReq := rfl
@[simp] theorem afterReads_running (as : List Addr) (c : Addr) (s : State) : (s.afterReads as c).running = s.running := rfl
@[simp] theorem afterReads_mem (as : List Addr) (c : Addr) (s : State) : (s.afterReads as c).mem = s.mem := rfl
@[simp] theorem afterReads_hostLoads (as : List Addr) (c : Addr) (s : State) : (s.afterReads as c).hostLoads = s.hostLoads.drop as.length := rfl
@[simp] theorem afterReads_log (as : List Addr) (c : Addr) (s : State) : (s.afterReads as c).log = (s.readEvents 0 as).reverse ++ s.log := rfl
@[simp] theorem afterReads_config (as : List Addr) (c : Addr) (s : State) : (s.afterReads as c).config = s.config := rfl

end Sys2Proof.Machine
end

