-- ==== Sys2Proof/Laws/Memory.lean ====
section
/-! SUPPORT. Memory: read after write, and every operation keeps the canonical form. -/

namespace Sys2Proof.Machine

/-- A store leaves every other key alone, in any list. -/
theorem get_set_ne {a b : Nat} (h : b ≠ a) (m : Memory) (v : Byte) :
    Memory.get (Memory.set m a v) b = Memory.get m b := by
  induction m with
  | nil => simp only [Memory.set]; split <;> simp [Memory.get, h]
  | cons c m ih =>
    obtain ⟨k, w⟩ := c
    simp only [Memory.set]
    split
    · split <;> simp [Memory.get, h]
    · split
      · rename_i hk
        subst hk
        split <;> simp [Memory.get, h]
      · simp [Memory.get, ih]

/-- Below its first admissible key a canonical list reads 0x00. -/
theorem get_below {m : Memory} {lo a : Nat} (h : Memory.wfFrom lo m = true) (ha : a < lo) :
    Memory.get m a = 0 := by
  induction m generalizing lo with
  | nil => rfl
  | cons c m ih =>
    obtain ⟨k, w⟩ := c
    simp only [Memory.wfFrom, Bool.and_eq_true, decide_eq_true_eq] at h
    obtain ⟨⟨⟨hlo, -⟩, -⟩, hm⟩ := h
    simp only [Memory.get]
    rw [if_neg (by omega), ih hm (by omega)]

/-- A store is seen by the next read of its key. -/
theorem get_set_same {m : Memory} {lo : Nat} (h : Memory.wfFrom lo m = true) (a : Nat) (v : Byte) :
    Memory.get (Memory.set m a v) a = v := by
  induction m generalizing lo with
  | nil =>
    simp only [Memory.set]
    split
    · rename_i hv; exact hv.symm
    · simp [Memory.get]
  | cons c m ih =>
    obtain ⟨k, w⟩ := c
    have h0 := h
    simp only [Memory.wfFrom, Bool.and_eq_true, decide_eq_true_eq] at h
    obtain ⟨⟨⟨-, -⟩, -⟩, hm⟩ := h
    simp only [Memory.set]
    split
    · rename_i hak
      split
      · rename_i hv
        simp only [Memory.get]
        rw [if_neg (by omega), get_below hm (by omega), hv]
      · simp [Memory.get]
    · split
      · rename_i hk
        subst hk
        split
        · rename_i hv
          rw [get_below hm (by omega), hv]
        · simp [Memory.get]
      · rename_i hk
        simp only [Memory.get]
        rw [if_neg hk, ih hm]

/-- A canonical list stays canonical when its lower bound is lowered. -/
theorem wfFrom_mono {m : Memory} {lo lo' : Nat} (h : Memory.wfFrom lo m = true) (hl : lo' ≤ lo) :
    Memory.wfFrom lo' m = true := by
  cases m with
  | nil => rfl
  | cons c m =>
    obtain ⟨k, w⟩ := c
    simp only [Memory.wfFrom, Bool.and_eq_true, decide_eq_true_eq] at h ⊢
    exact ⟨⟨⟨by omega, h.1.1.2⟩, h.1.2⟩, h.2⟩

/-- A store keeps the canonical form. -/
theorem set_wfFrom {m : Memory} {lo : Nat} (h : Memory.wfFrom lo m = true) {a : Nat} (hlo : lo ≤ a)
    (ha : a < 65536) (v : Byte) : Memory.wfFrom lo (Memory.set m a v) = true := by
  induction m generalizing lo with
  | nil =>
    simp only [Memory.set]
    split
    · rfl
    · rename_i hv
      simpa [Memory.wfFrom, hlo, ha] using hv
  | cons c m ih =>
    obtain ⟨k, w⟩ := c
    have h0 := h
    simp only [Memory.wfFrom, Bool.and_eq_true, decide_eq_true_eq] at h
    obtain ⟨⟨⟨hk, hk6⟩, hw⟩, hm⟩ := h
    simp only [Memory.set]
    split
    · split
      · exact h0
      · rename_i hak hv
        simp only [Memory.wfFrom, Bool.and_eq_true, decide_eq_true_eq]
        exact ⟨⟨⟨hlo, ha⟩, by simpa using hv⟩, ⟨⟨⟨by omega, hk6⟩, hw⟩, hm⟩⟩
    · split
      · rename_i hak
        split
        · exact wfFrom_mono hm (by omega)
        · rename_i hv
          subst hak
          simp only [Memory.wfFrom, Bool.and_eq_true, decide_eq_true_eq]
          exact ⟨⟨⟨hlo, ha⟩, by simpa using hv⟩, hm⟩
      · rename_i h1 h2
        simp only [Memory.wfFrom, Bool.and_eq_true, decide_eq_true_eq]
        exact ⟨⟨⟨hk, hk6⟩, hw⟩, ih hm (by omega)⟩

/-- `Memory.write` keeps the canonical form. -/
theorem write_wf {m : Memory} (h : m.wf = true) (a : Addr) (v : Byte) : (m.write a v).wf = true :=
  set_wfFrom h (Nat.zero_le _) a.isLt v

/-- Read after write at the same address. -/
theorem read_write_same {m : Memory} (h : m.wf = true) (a : Addr) (v : Byte) : (m.write a v).read a = v :=
  get_set_same h a.toNat v

/-- Read after write at another address. -/
theorem read_write_ne {a b : Addr} (h : b ≠ a) (m : Memory) (v : Byte) : (m.write a v).read b = m.read b :=
  get_set_ne (fun e => h (BitVec.eq_of_toNat_eq e)) m v

end Sys2Proof.Machine
end

