-- ==== Sys2Proof/Laws/Bus.lean ====
section
/-! SUPPORT. Loads in a row: every bus read, fetch and pull after a row of loads is one more load in the row. A read
procedure of the machine is turned into its closed form by these lemmas alone. -/

namespace Sys2Proof.Machine

/-- A row of no loads changes nothing. -/
theorem afterReads_nil (s : State) : s.afterReads [] s.pc = s := rfl

/-- The load now is the first answer. -/
theorem loadByte_eq_answer (s : State) (a : Addr) : s.loadByte a = s.answer 0 a := by
  obtain ⟨a', x, y, sp, p, pc, nmi, irq, hr, rn, mem, loads, log, cfg⟩ := s
  rcases loads with _ | ⟨_ | b, l⟩ <;> rfl

/-- The events of a row and one load more. -/
theorem readEvents_append (s : State) (k : Nat) (as : List Addr) (a : Addr) :
    s.readEvents k (as ++ [a]) = s.readEvents k as ++ [.read a (s.answer (k + as.length) a)] := by
  induction as generalizing k with
  | nil => rfl
  | cons b as ih =>
    simp only [List.cons_append, State.readEvents, ih, List.length_cons]
    rw [show k + 1 + as.length = k + (as.length + 1) by omega]

/-- Answers do not depend on the registers, the lines or the trace. -/
theorem answer_congr {s t : State} (hl : t.hostLoads = s.hostLoads) (hm : t.mem = s.mem) (k : Nat) (a : Addr) :
    t.answer k a = s.answer k a := by simp [State.answer, hl, hm]

/-- The events of a row do not depend on the registers, the lines or the trace. -/
theorem readEvents_congr {s t : State} (hl : t.hostLoads = s.hostLoads) (hm : t.mem = s.mem) (k : Nat)
    (as : List Addr) : t.readEvents k as = s.readEvents k as := by
  induction as generalizing k with
  | nil => rfl
  | cons a as ih => simp [State.readEvents, answer_congr hl hm, ih]

/-- The answers that follow a row. -/
@[simp] theorem answer_afterReads (s : State) (as : List Addr) (c : Addr) (k : Nat) (a : Addr) :
    (s.afterReads as c).answer k a = s.answer (as.length + k) a := by
  simp [State.answer, List.getElem?_drop]

/-- A load after a row is answered by the row's next answer. -/
@[simp] theorem loadByte_afterReads (s : State) (as : List Addr) (c a : Addr) :
    (s.afterReads as c).loadByte a = s.answer as.length a := by
  simp [loadByte_eq_answer]

/-- A bus read after a row of loads. -/
@[simp] theorem busRead_afterReads (s : State) (as : List Addr) (c a : Addr) :
    busRead a (s.afterReads as c) = (s.answer as.length a, s.afterReads (as ++ [a]) c) := by
  simp [busRead, State.afterReads, readEvents_append, State.answer]
  exact loadByte_afterReads s as c a

/-- A dummy read after a row of loads. -/
@[simp] theorem dummyRead_afterReads (s : State) (as : List Addr) (c a : Addr) :
    dummyRead a (s.afterReads as c) = s.afterReads (as ++ [a]) c := by
  rw [dummyRead, busRead_afterReads]

/-- A fetch after a row of loads. -/
@[simp] theorem fetch_afterReads (s : State) (as : List Addr) (c : Addr) :
    fetch (s.afterReads as c) = (s.answer as.length c, s.afterReads (as ++ [c]) (c + 1)) := by
  have h : (s.afterReads as c).pc = c := rfl
  simp only [fetch, h, busRead_afterReads]
  rfl

/-- A read under `EXTRA_DUMMY_READS` after a row of loads. -/
@[simp] theorem extraRead_afterReads (s : State) (as : List Addr) (c a : Addr) :
    extraRead a (s.afterReads as c) = s.afterReads (as ++ s.extra [a]) c := by
  unfold extraRead State.extra
  simp only [afterReads_config, dummyRead_afterReads]
  split <;> simp

/-- The first read of a row. -/
theorem busRead_eq (s : State) (a : Addr) : busRead a s = (s.answer 0 a, s.afterReads [a] s.pc) :=
  busRead_afterReads s [] s.pc a

/-- The first fetch of a row. -/
theorem fetch_eq (s : State) : fetch s = (s.answer 0 s.pc, s.afterReads [s.pc] (s.pc + 1)) :=
  fetch_afterReads s [] s.pc

/-- A first read under `EXTRA_DUMMY_READS`. -/
theorem extraRead_eq (s : State) (a : Addr) : extraRead a s = s.afterReads (s.extra [a]) s.pc :=
  extraRead_afterReads s [] s.pc a

/-- `Implied()` is the optional dummy read at PC. -/
theorem implied_eq (s : State) : implied s = s.afterReads (s.extra [s.pc]) s.pc := extraRead_eq s s.pc

/-- Two rows of loads are one row. -/
theorem afterReads_afterReads (s : State) (as bs : List Addr) (c d : Addr) :
    (s.afterReads as c).afterReads bs d = s.afterReads (as ++ bs) d := by
  induction bs using List.reverseRecOn generalizing d with
  | nil => simp [State.afterReads, State.readEvents]
  | append_singleton l b ih =>
    have h1 : (s.afterReads as c).afterReads (l ++ [b]) d =
        dummyRead b ((s.afterReads as c).afterReads l d) := by simp
    have h2 : s.afterReads (as ++ (l ++ [b])) d = dummyRead b (s.afterReads (as ++ l) d) := by simp
    rw [h1, h2, ih]

/-- Which dummy reads `EXTRA_DUMMY_READS` issues does not depend on the loads before them. -/
@[simp] theorem extra_afterReads (s : State) (as l : List Addr) (c : Addr) :
    (s.afterReads as c).extra l = s.extra l := rfl

/-- A pull after a row of loads, whatever S and P are by then. -/
theorem pull_afterReads (s : State) (as : List Addr) (c : Addr) (k q : Byte) :
    pull { s.afterReads as c with sp := k, p := q } =
      (s.answer as.length (stackAddr (k + 1)),
        { s.afterReads (as ++ [stackAddr (k + 1)]) c with sp := k + 1, p := q }) := by
  have h := busRead_afterReads { s with sp := k + 1, p := q } as c (stackAddr (k + 1))
  have e (l : List Addr) : State.afterReads { s with sp := k + 1, p := q } l c =
      { s.afterReads l c with sp := k + 1, p := q } := by
    simp only [State.afterReads, readEvents_congr (s := s) (t := { s with sp := k + 1, p := q }) rfl rfl]
  rw [e, e] at h
  exact h

/-- The first pull of a row. -/
theorem pull_eq (s : State) :
    pull s = (s.answer 0 (stackAddr (s.sp + 1)),
      { s.afterReads [stackAddr (s.sp + 1)] s.pc with sp := s.sp + 1 }) :=
  pull_afterReads s [] s.pc s.sp s.p

/-! ### Bytes and words -/

/-- `cat` of the halves of a word. -/
@[simp] theorem cat_hi_lo (v : Addr) : cat (hiByte v) (loByte v) = v := by
  apply BitVec.eq_of_getLsbD_eq
  intro i hi
  simp only [cat, hiByte, loByte, BitVec.getLsbD_append, BitVec.getLsbD_extractLsb']
  by_cases h : i < 8
  · simp [h]
  · simp [h, show i - 8 < 8 by omega, show 8 + (i - 8) = i by omega]

@[simp] theorem hiByte_cat (h l : Byte) : hiByte (cat h l) = h := by
  apply BitVec.eq_of_getLsbD_eq
  intro i hi
  simp only [cat, hiByte, BitVec.getLsbD_extractLsb', BitVec.getLsbD_append]
  simp [hi]

@[simp] theorem loByte_cat (h l : Byte) : loByte (cat h l) = l := by
  apply BitVec.eq_of_getLsbD_eq
  intro i hi
  simp only [cat, loByte, BitVec.getLsbD_extractLsb', BitVec.getLsbD_append]
  simp [hi]

/-- `cat(h, l)` is `h * 256 + l` (00_scope.md R9). -/
theorem cat_toNat (h l : Byte) : (cat h l).toNat = h.toNat * 256 + l.toNat := by
  have hl := l.isLt
  rw [cat, BitVec.toNat_append, Nat.shiftLeft_eq, Nat.mul_comm, ← Nat.two_pow_add_eq_or_of_lt hl]

/-- The high byte of a word is its quotient by 256. -/
theorem hiByte_toNat (v : Addr) : (hiByte v).toNat = v.toNat / 256 := by
  have h := v.isLt
  simp [hiByte, BitVec.extractLsb'_toNat, Nat.shiftRight_eq_div_pow]
  omega

/-- The low byte of a word is its remainder by 256. -/
theorem loByte_toNat (v : Addr) : (loByte v).toNat = v.toNat % 256 := by
  simp [loByte, BitVec.extractLsb'_toNat]

end Sys2Proof.Machine
end

