-- ==== Sys2Proof/Laws/Operands.lean ====
section
/-! SUPPORT. The closed form of every addressing-mode procedure, of the branch and of the interrupt entry: one lemma
each, which says everything it can do. Callers cite these and never unfold the procedures. -/

namespace Sys2Proof.Machine

/-! ### Effective addresses -/

/-- The carry out of the low byte is the change of the high byte (41_addressing_modes.md R153). -/
theorem indexCross_iff (h l idx : Byte) :
    (indexCross (cat h l) idx = true) ↔ 255 < l.toNat + idx.toNat := by
  have hh := h.isLt
  have hl := l.isLt
  have hi := idx.isLt
  have hc := cat_toNat h l
  have hz : (zext16 idx).toNat = idx.toNat := by simp [zext16]; omega
  have hn : (hiByte (cat h l + zext16 idx)).toNat = (h.toNat * 256 + l.toNat + idx.toNat) % 65536 / 256 := by
    rw [hiByte_toNat, BitVec.toNat_add, hc, hz]
  simp only [indexCross, hiByte_cat, bne_iff_ne, ne_eq, ← BitVec.toNat_inj, hn]
  omega

/-- `cat(hi, s mod 256)` is the wrong-page address (41_addressing_modes.md R153). -/
theorem wrongPage_eq (h l idx : Byte) : cat h (BitVec.ofNat 8 (l.toNat + idx.toNat)) = cat h (l + idx) :=
  rfl

/-- With the carry, the wrong-page address and one page more is base + index; without it, the wrong-page address is. -/
theorem indexedEa_eq (h l idx : Byte) :
    (if 255 < l.toNat + idx.toNat then cat h (l + idx) + 0x0100 else cat h (l + idx)) =
      cat h l + zext16 idx := by
  have hh := h.isLt
  have hl := l.isLt
  have hi := idx.isLt
  have hz : (zext16 idx).toNat = idx.toNat := by simp [zext16]; omega
  apply BitVec.eq_of_toNat_eq
  split
  · rw [BitVec.toNat_add, BitVec.toNat_add, cat_toNat, cat_toNat, hz, BitVec.toNat_add]
    have h256 : (0x0100 : Addr).toNat = 256 := rfl
    rw [h256]
    omega
  · rw [BitVec.toNat_add, cat_toNat, cat_toNat, hz, BitVec.toNat_add]
    omega

/-- The indexed address after a row of loads (41_addressing_modes.md R153). -/
theorem eaIndexed_eq (lo hi idx : Byte) (kind : AccessKind) (s : State) (as : List Addr) (c : Addr) :
    eaIndexed lo hi idx kind (s.afterReads as c) =
      ((indexedAccess kind as (cat hi lo) idx).2, s.afterReads (indexedAccess kind as (cat hi lo) idx).1 c) := by
  simp only [eaIndexed, indexedAccess, wrongPage_eq, indexedEa_eq, indexCross_iff, hiByte_cat, loByte_cat,
    dummyRead_afterReads]
  split <;> simp

theorem eaZp_eq (kind : AccessKind) (s : State) : eaZp s = (s.ea kind .zp, s.atAccess kind .zp) := by
  simp only [eaZp, fetch_eq]
  rfl

theorem eaZpIndexed_X_eq (kind : AccessKind) (s : State) :
    eaZpIndexed .X s = (s.ea kind .zpx, s.atAccess kind .zpx) := by
  simp only [eaZpIndexed, fetch_eq, dummyRead_afterReads]
  rfl

theorem eaZpIndexed_Y_eq (kind : AccessKind) (s : State) :
    eaZpIndexed .Y s = (s.ea kind .zpy, s.atAccess kind .zpy) := by
  simp only [eaZpIndexed, fetch_eq, dummyRead_afterReads]
  rfl

/-- PC after two fetches. -/
theorem pc_two (c : Addr) : c + 1 + 1 = c + 2 := by rw [BitVec.add_assoc]; rfl

/-- The two operand bytes of the absolute modes. -/
theorem fetch_fetch_eq (s : State) :
    fetch (fetch s).2 = (s.answer 1 (s.pc + 1), s.afterReads [s.pc, s.pc + 1] (s.pc + 2)) := by
  rw [fetch_eq s]
  simp only [fetch_afterReads, pc_two]
  rfl

theorem eaAbs_eq (kind : AccessKind) (s : State) : eaAbs s = (s.ea kind .abs, s.atAccess kind .abs) := by
  simp only [eaAbs, fetch_fetch_eq]
  simp only [fetch_eq]
  rfl

theorem eaAbsIndexed_X_eq (kind : AccessKind) (s : State) :
    eaAbsIndexed .X kind s = (s.ea kind .abx, s.atAccess kind .abx) := by
  simp only [eaAbsIndexed, fetch_fetch_eq, eaIndexed_eq]
  simp only [fetch_eq]
  rfl

theorem eaAbsIndexed_Y_eq (kind : AccessKind) (s : State) :
    eaAbsIndexed .Y kind s = (s.ea kind .aby, s.atAccess kind .aby) := by
  simp only [eaAbsIndexed, fetch_fetch_eq, eaIndexed_eq]
  simp only [fetch_eq]
  rfl

theorem eaIzx_eq (kind : AccessKind) (s : State) : eaIzx s = (s.ea kind .izx, s.atAccess kind .izx) := by
  simp only [eaIzx, fetch_eq, dummyRead_afterReads, busRead_afterReads]
  rfl

theorem eaIzy_eq (kind : AccessKind) (s : State) : eaIzy kind s = (s.ea kind .izy, s.atAccess kind .izy) := by
  simp only [eaIzy, fetch_eq, busRead_afterReads, eaIndexed_eq]
  rfl

/-- JMP (abs): the pointer's two bytes are read from one page (41_addressing_modes.md R165). -/
theorem eaInd_eq (s : State) :
    eaInd s =
      (cat (s.answer 3 (cat (s.answer 1 (s.pc + 1)) (s.answer 0 s.pc + 1))) (s.answer 2 s.absOperand),
        s.afterReads [s.pc, s.pc + 1, s.absOperand, cat (s.answer 1 (s.pc + 1)) (s.answer 0 s.pc + 1)]
          (s.pc + 2)) := by
  simp only [eaInd, fetch_fetch_eq, busRead_afterReads]
  simp only [fetch_eq]
  rfl

/-! ### Read, write and modify -/

/-- The read half of every mode but immediate. -/
theorem readAt_eq (opr : Operation) (slot : RegName) (m : Mode) (s : State) :
    readAt opr slot (s.ea .read m, s.atAccess .read m) =
      applyOp opr (s.operand .read m) slot (s.afterOperand .read m) := by
  simp only [readAt, State.atAccess, busRead_afterReads]
  rfl

/-- Immediate: the operand is the byte at PC. -/
theorem immRead_eq (opr : Operation) (slot : RegName) (s : State) :
    immRead opr slot s = applyOp opr (s.operand .read .imm) slot (s.afterOperand .read .imm) := by
  simp only [immRead, fetch_eq]
  rfl

/-- The write half of every mode. -/
theorem writeAt_eq (r : RegName) (m : Mode) (s : State) :
    writeAt r (s.ea .write m, s.atAccess .write m) =
      s.stored m (s.getReg r) := by
  cases r <;> rfl

/-- The modify half of every mode. -/
theorem modifyAt_eq (opr : Operation) (m : Mode) (s : State) :
    modifyAt opr (s.ea .modify m, s.atAccess .modify m) =
      s.modified m (opr.apply (s.operand .modify m) (s.operand .modify m) s.a s.p).1
        (opr.apply (s.operand .modify m) (s.operand .modify m) s.a s.p).2 := by
  simp only [modifyAt, State.atAccess, busRead_afterReads]
  rfl

/-! ### Branches -/

/-- The low byte of a branch target is the low-byte addition (41_addressing_modes.md R164). -/
theorem loByte_branch (c : Addr) (off : Byte) : loByte (c + sext16 off) = loByte c + off := by
  apply BitVec.eq_of_toNat_eq
  have h : (sext16 off).toNat % 256 = off.toNat := by
    have hs : (sext16 off).setWidth 8 = off := by
      apply BitVec.eq_of_getLsbD_eq
      intro i hi
      simp only [sext16, BitVec.getLsbD_setWidth, BitVec.getLsbD_signExtend]
      simp [hi, show i < 16 by omega]
    have := congrArg BitVec.toNat hs
    simpa using this
  rw [loByte_toNat, BitVec.toNat_add, BitVec.toNat_add, loByte_toNat]
  omega

/-- `Branch(cond)` in closed form (41_addressing_modes.md R164). -/
theorem branch_eq (cond : Bool) (s : State) :
    branch cond s =
      if cond then s.afterReads s.takenReads s.branchTarget else s.afterReads [s.pc] (s.pc + 1) := by
  have hpc : ∀ as c, (s.afterReads as c).pc = c := fun _ _ => rfl
  cases cond
  · simp [branch, fetch_eq]
  · simp only [branch, fetch_eq, hpc, if_true, dummyRead_afterReads, State.takenReads, State.branchTarget,
      loByte_branch]
    split <;> simp <;> rfl

/-! ### Interrupt entry and reset -/

/-- The two vector reads in closed form (60_exceptions.md R410). -/
theorem vectorReads_eq (vec : Addr) (s : State) :
    { (busRead (vec + 1) (busRead vec s).2).2 with
      pc := cat (busRead (vec + 1) (busRead vec s).2).1 (busRead vec s).1 } = vectored vec s := by
  rw [busRead_eq s vec]
  simp only [busRead_afterReads]
  rfl

/-- A vector load in closed form (60_exceptions.md R408, R410). -/
theorem loadVector_eq (vec : Addr) (s : State) :
    loadVector vec s = vectored vec { s with p := setFlag s.p .I true } := vectorReads_eq vec _

/-- The entry's two dummy reads. -/
theorem entryDummyReads_hardware (s : State) :
    entryDummyReads .hardware s = s.afterReads (s.extra [s.pc, s.pc]) s.pc := by
  have hpc : ∀ as c, (s.afterReads as c).pc = c := fun _ _ => rfl
  simp only [entryDummyReads, extraRead_eq s, extraRead_afterReads]
  unfold State.extra
  split <;> rfl

/-- Every entry in closed form (60_exceptions.md R408, R411). -/
theorem interruptEntry_eq (vec : Addr) (path : EntryPath) (s : State) :
    interruptEntry vec path s = vectored vec (entryPushed (pushedP path s.p) (entryDummyReads path s)) := by
  simp only [interruptEntry, loadVector_eq]
  congr 1
  have h2 : ∀ sp : Byte, sp - 1#8 - 1#8 = sp - 2#8 := fun sp => by rw [BitVec.sub_sub]; rfl
  have h3 : ∀ sp : Byte, sp - 2#8 - 1#8 = sp - 3#8 := fun sp => by rw [BitVec.sub_sub]; rfl
  have hp : (entryDummyReads path s).p = s.p := by
    cases path
    · rw [entryDummyReads_hardware]; rfl
    · rfl
  simp [entryPushed, push, busWrite, h2, h3, hp]

/-- The return from an interrupt in closed form. -/
theorem returnFromInterrupt_eq (s : State) (as : List Addr) (c : Addr) :
    returnFromInterrupt (s.afterReads as c) =
      { s.afterReads (as ++ [stackAddr (s.sp + 1), stackAddr (s.sp + 2), stackAddr (s.sp + 3)])
          (cat (s.answer (as.length + 2) (stackAddr (s.sp + 3))) (s.answer (as.length + 1) (stackAddr (s.sp + 2)))) with
        sp := s.sp + 3
        p := pulledP (s.answer as.length (stackAddr (s.sp + 1))) } := by
  have h1 := pull_afterReads s as c s.sp s.p
  have h2 := fun (l : List Addr) (k q : Byte) => pull_afterReads s l c k q
  simp only [returnFromInterrupt]
  rw [show s.afterReads as c = { s.afterReads as c with sp := s.sp, p := s.p } from rfl, h1]
  simp only [h2, List.append_assoc, List.cons_append, List.nil_append, List.length_append, List.length_cons,
    List.length_nil]
  simp only [BitVec.add_assoc]
  rfl

end Sys2Proof.Machine
end

