-- ==== Sys2Proof/Laws/PerInstr.lean ====
section
/-! SUPPORT. One law per instruction, each for the host's case split: the opcode byte the encoder gives a well-formed
instruction decodes back to it (30_encoding.md R90, R93). -/

namespace Sys2Proof.Laws.OpcodeRoundTrip

/-- The opcode of a well-formed instruction decodes to that instruction (30_encoding.md R93). -/
def Statement (i : Instr) : Prop := i.wellFormed = true → decodeOpcode (opcodeOf i) = i

theorem adcImm : Statement .adcImm := fun _ => rfl
theorem adcZp : Statement .adcZp := fun _ => rfl
theorem adcZpx : Statement .adcZpx := fun _ => rfl
theorem adcAbs : Statement .adcAbs := fun _ => rfl
theorem adcAbx : Statement .adcAbx := fun _ => rfl
theorem adcAby : Statement .adcAby := fun _ => rfl
theorem adcIzx : Statement .adcIzx := fun _ => rfl
theorem adcIzy : Statement .adcIzy := fun _ => rfl
theorem sbcImm : Statement .sbcImm := fun _ => rfl
theorem sbcZp : Statement .sbcZp := fun _ => rfl
theorem sbcZpx : Statement .sbcZpx := fun _ => rfl
theorem sbcAbs : Statement .sbcAbs := fun _ => rfl
theorem sbcAbx : Statement .sbcAbx := fun _ => rfl
theorem sbcAby : Statement .sbcAby := fun _ => rfl
theorem sbcIzx : Statement .sbcIzx := fun _ => rfl
theorem sbcIzy : Statement .sbcIzy := fun _ => rfl
theorem andImm : Statement .andImm := fun _ => rfl
theorem andZp : Statement .andZp := fun _ => rfl
theorem andZpx : Statement .andZpx := fun _ => rfl
theorem andAbs : Statement .andAbs := fun _ => rfl
theorem andAbx : Statement .andAbx := fun _ => rfl
theorem andAby : Statement .andAby := fun _ => rfl
theorem andIzx : Statement .andIzx := fun _ => rfl
theorem andIzy : Statement .andIzy := fun _ => rfl
theorem oraImm : Statement .oraImm := fun _ => rfl
theorem oraZp : Statement .oraZp := fun _ => rfl
theorem oraZpx : Statement .oraZpx := fun _ => rfl
theorem oraAbs : Statement .oraAbs := fun _ => rfl
theorem oraAbx : Statement .oraAbx := fun _ => rfl
theorem oraAby : Statement .oraAby := fun _ => rfl
theorem oraIzx : Statement .oraIzx := fun _ => rfl
theorem oraIzy : Statement .oraIzy := fun _ => rfl
theorem eorImm : Statement .eorImm := fun _ => rfl
theorem eorZp : Statement .eorZp := fun _ => rfl
theorem eorZpx : Statement .eorZpx := fun _ => rfl
theorem eorAbs : Statement .eorAbs := fun _ => rfl
theorem eorAbx : Statement .eorAbx := fun _ => rfl
theorem eorAby : Statement .eorAby := fun _ => rfl
theorem eorIzx : Statement .eorIzx := fun _ => rfl
theorem eorIzy : Statement .eorIzy := fun _ => rfl
theorem bitZp : Statement .bitZp := fun _ => rfl
theorem bitAbs : Statement .bitAbs := fun _ => rfl
theorem cmpImm : Statement .cmpImm := fun _ => rfl
theorem cmpZp : Statement .cmpZp := fun _ => rfl
theorem cmpZpx : Statement .cmpZpx := fun _ => rfl
theorem cmpAbs : Statement .cmpAbs := fun _ => rfl
theorem cmpAbx : Statement .cmpAbx := fun _ => rfl
theorem cmpAby : Statement .cmpAby := fun _ => rfl
theorem cmpIzx : Statement .cmpIzx := fun _ => rfl
theorem cmpIzy : Statement .cmpIzy := fun _ => rfl
theorem cpxImm : Statement .cpxImm := fun _ => rfl
theorem cpxZp : Statement .cpxZp := fun _ => rfl
theorem cpxAbs : Statement .cpxAbs := fun _ => rfl
theorem cpyImm : Statement .cpyImm := fun _ => rfl
theorem cpyZp : Statement .cpyZp := fun _ => rfl
theorem cpyAbs : Statement .cpyAbs := fun _ => rfl
theorem aslAcc : Statement .aslAcc := fun _ => rfl
theorem aslZp : Statement .aslZp := fun _ => rfl
theorem aslZpx : Statement .aslZpx := fun _ => rfl
theorem aslAbs : Statement .aslAbs := fun _ => rfl
theorem aslAbx : Statement .aslAbx := fun _ => rfl
theorem lsrAcc : Statement .lsrAcc := fun _ => rfl
theorem lsrZp : Statement .lsrZp := fun _ => rfl
theorem lsrZpx : Statement .lsrZpx := fun _ => rfl
theorem lsrAbs : Statement .lsrAbs := fun _ => rfl
theorem lsrAbx : Statement .lsrAbx := fun _ => rfl
theorem rolAcc : Statement .rolAcc := fun _ => rfl
theorem rolZp : Statement .rolZp := fun _ => rfl
theorem rolZpx : Statement .rolZpx := fun _ => rfl
theorem rolAbs : Statement .rolAbs := fun _ => rfl
theorem rolAbx : Statement .rolAbx := fun _ => rfl
theorem rorAcc : Statement .rorAcc := fun _ => rfl
theorem rorZp : Statement .rorZp := fun _ => rfl
theorem rorZpx : Statement .rorZpx := fun _ => rfl
theorem rorAbs : Statement .rorAbs := fun _ => rfl
theorem rorAbx : Statement .rorAbx := fun _ => rfl
theorem incZp : Statement .incZp := fun _ => rfl
theorem incZpx : Statement .incZpx := fun _ => rfl
theorem incAbs : Statement .incAbs := fun _ => rfl
theorem incAbx : Statement .incAbx := fun _ => rfl
theorem decZp : Statement .decZp := fun _ => rfl
theorem decZpx : Statement .decZpx := fun _ => rfl
theorem decAbs : Statement .decAbs := fun _ => rfl
theorem decAbx : Statement .decAbx := fun _ => rfl
theorem inx : Statement .inx := fun _ => rfl
theorem iny : Statement .iny := fun _ => rfl
theorem dex : Statement .dex := fun _ => rfl
theorem dey : Statement .dey := fun _ => rfl
theorem ldaImm : Statement .ldaImm := fun _ => rfl
theorem ldaZp : Statement .ldaZp := fun _ => rfl
theorem ldaZpx : Statement .ldaZpx := fun _ => rfl
theorem ldaAbs : Statement .ldaAbs := fun _ => rfl
theorem ldaAbx : Statement .ldaAbx := fun _ => rfl
theorem ldaAby : Statement .ldaAby := fun _ => rfl
theorem ldaIzx : Statement .ldaIzx := fun _ => rfl
theorem ldaIzy : Statement .ldaIzy := fun _ => rfl
theorem ldxImm : Statement .ldxImm := fun _ => rfl
theorem ldxZp : Statement .ldxZp := fun _ => rfl
theorem ldxZpy : Statement .ldxZpy := fun _ => rfl
theorem ldxAbs : Statement .ldxAbs := fun _ => rfl
theorem ldxAby : Statement .ldxAby := fun _ => rfl
theorem ldyImm : Statement .ldyImm := fun _ => rfl
theorem ldyZp : Statement .ldyZp := fun _ => rfl
theorem ldyZpx : Statement .ldyZpx := fun _ => rfl
theorem ldyAbs : Statement .ldyAbs := fun _ => rfl
theorem ldyAbx : Statement .ldyAbx := fun _ => rfl
theorem staZp : Statement .staZp := fun _ => rfl
theorem staZpx : Statement .staZpx := fun _ => rfl
theorem staAbs : Statement .staAbs := fun _ => rfl
theorem staAbx : Statement .staAbx := fun _ => rfl
theorem staAby : Statement .staAby := fun _ => rfl
theorem staIzx : Statement .staIzx := fun _ => rfl
theorem staIzy : Statement .staIzy := fun _ => rfl
theorem stxZp : Statement .stxZp := fun _ => rfl
theorem stxZpy : Statement .stxZpy := fun _ => rfl
theorem stxAbs : Statement .stxAbs := fun _ => rfl
theorem styZp : Statement .styZp := fun _ => rfl
theorem styZpx : Statement .styZpx := fun _ => rfl
theorem styAbs : Statement .styAbs := fun _ => rfl
theorem tax : Statement .tax := fun _ => rfl
theorem tay : Statement .tay := fun _ => rfl
theorem tsx : Statement .tsx := fun _ => rfl
theorem txa : Statement .txa := fun _ => rfl
theorem tya : Statement .tya := fun _ => rfl
theorem txs : Statement .txs := fun _ => rfl
theorem pha : Statement .pha := fun _ => rfl
theorem php : Statement .php := fun _ => rfl
theorem pla : Statement .pla := fun _ => rfl
theorem plp : Statement .plp := fun _ => rfl
theorem bcc : Statement .bcc := fun _ => rfl
theorem bcs : Statement .bcs := fun _ => rfl
theorem beq : Statement .beq := fun _ => rfl
theorem bne : Statement .bne := fun _ => rfl
theorem bmi : Statement .bmi := fun _ => rfl
theorem bpl : Statement .bpl := fun _ => rfl
theorem bvc : Statement .bvc := fun _ => rfl
theorem bvs : Statement .bvs := fun _ => rfl
theorem jmpAbs : Statement .jmpAbs := fun _ => rfl
theorem jmpInd : Statement .jmpInd := fun _ => rfl
theorem jsr : Statement .jsr := fun _ => rfl
theorem rts : Statement .rts := fun _ => rfl
theorem rti : Statement .rti := fun _ => rfl
theorem brk : Statement .brk := fun _ => rfl
theorem clc : Statement .clc := fun _ => rfl
theorem sec : Statement .sec := fun _ => rfl
theorem cli : Statement .cli := fun _ => rfl
theorem sei : Statement .sei := fun _ => rfl
theorem clv : Statement .clv := fun _ => rfl
theorem cld : Statement .cld := fun _ => rfl
theorem sed : Statement .sed := fun _ => rfl
theorem nop : Statement .nop := fun _ => rfl

/-- Every byte of R95 has no entry in the map of R94. -/
theorem unmapped_bytes : ∀ op ∈ unmappedOpcodes, decodeOpcode op = .unmapped op := by decide

theorem unmapped (op : Byte) : Statement (.unmapped op) := fun h =>
  unmapped_bytes op (List.contains_iff_mem.mp h)

end Sys2Proof.Laws.OpcodeRoundTrip
end

