-- ==== Sys2Proof/Tests/Slice0.lean ====
section
/-! SUPPORT. Tests. The expected values are those of the spec's own vectors (95_test_vectors.md, named at each group),
its encoding tables (30_encoding.md R91, R94, R95) and its rules. The last part has, for every statement with hypotheses, a concrete state
that meets them. -/

open Sys2Proof Sys2Proof.Machine

namespace Sys2Proof.Tests

/-! ### Well-formedness: what each check refuses -/

theorem test_wellFormed_refuses_a_mapped_byte : (Instr.unmapped 0xA9).wellFormed = false := by decide

theorem test_wellFormed_accepts_an_unmapped_byte : (Instr.unmapped 0x02).wellFormed = true := by decide

theorem test_encodable_refuses_a_missing_operand : Instr.ldaAbs.encodable [0x34] = false := by decide

theorem test_encodable_refuses_an_extra_operand : Instr.brk.encodable [0xEA] = false := by decide

theorem test_encodable_refuses_a_mapped_byte : (Instr.unmapped 0x00).encodable [] = false := by decide

theorem test_encodable_accepts : Instr.ldaAbs.encodable [0x34, 0x12] = true := by decide

theorem test_memory_form_refuses_a_zero_byte : Memory.wf [(0x10, 0x01), (0x11, 0x00)] = false := by decide

theorem test_memory_form_refuses_a_repeat : Memory.wf [(0x10, 0x01), (0x10, 0x02)] = false := by decide

theorem test_memory_form_refuses_an_address_above_the_space : Memory.wf [(65536, 0x01)] = false := by decide

/-! ### Decoding: words written out from the "Encoding" lines of 43 to 48 and from 30_encoding.md R95

Operand bytes 0x34 and 0x12 stand after the opcode where the format has operands (R91). -/

/-- A word decodes to an instruction, with its operand bytes in order and nothing left over. -/
def reads (word : List Byte) (i : Instr) : Bool := decide (decode word = .ok (i, word.drop 1, []))

theorem test_decode_ADC : (reads [0b01101001, 0x34] .adcImm && reads [0x65, 0x34] .adcZp && reads [0x75, 0x34] .adcZpx &&
    reads [0x6D, 0x34, 0x12] .adcAbs && reads [0x7D, 0x34, 0x12] .adcAbx && reads [0x79, 0x34, 0x12] .adcAby &&
    reads [0x61, 0x34] .adcIzx && reads [0x71, 0x34] .adcIzy) = true := by decide

theorem test_decode_SBC : (reads [0b11101001, 0x34] .sbcImm && reads [0xE5, 0x34] .sbcZp && reads [0xF5, 0x34] .sbcZpx &&
    reads [0xED, 0x34, 0x12] .sbcAbs && reads [0xFD, 0x34, 0x12] .sbcAbx && reads [0xF9, 0x34, 0x12] .sbcAby &&
    reads [0xE1, 0x34] .sbcIzx && reads [0xF1, 0x34] .sbcIzy) = true := by decide

theorem test_decode_AND : (reads [0b00101001, 0x34] .andImm && reads [0x25, 0x34] .andZp && reads [0x35, 0x34] .andZpx &&
    reads [0x2D, 0x34, 0x12] .andAbs && reads [0x3D, 0x34, 0x12] .andAbx && reads [0x39, 0x34, 0x12] .andAby &&
    reads [0x21, 0x34] .andIzx && reads [0x31, 0x34] .andIzy) = true := by decide

theorem test_decode_ORA : (reads [0b00001001, 0x34] .oraImm && reads [0x05, 0x34] .oraZp && reads [0x15, 0x34] .oraZpx &&
    reads [0x0D, 0x34, 0x12] .oraAbs && reads [0x1D, 0x34, 0x12] .oraAbx && reads [0x19, 0x34, 0x12] .oraAby &&
    reads [0x01, 0x34] .oraIzx && reads [0x11, 0x34] .oraIzy) = true := by decide

theorem test_decode_EOR : (reads [0b01001001, 0x34] .eorImm && reads [0x45, 0x34] .eorZp && reads [0x55, 0x34] .eorZpx &&
    reads [0x4D, 0x34, 0x12] .eorAbs && reads [0x5D, 0x34, 0x12] .eorAbx && reads [0x59, 0x34, 0x12] .eorAby &&
    reads [0x41, 0x34] .eorIzx && reads [0x51, 0x34] .eorIzy) = true := by decide

theorem test_decode_BIT : (reads [0b00100100, 0x34] .bitZp && reads [0x2C, 0x34, 0x12] .bitAbs) = true := by decide

theorem test_decode_CMP : (reads [0b11001001, 0x34] .cmpImm && reads [0xC5, 0x34] .cmpZp && reads [0xD5, 0x34] .cmpZpx &&
    reads [0xCD, 0x34, 0x12] .cmpAbs && reads [0xDD, 0x34, 0x12] .cmpAbx && reads [0xD9, 0x34, 0x12] .cmpAby &&
    reads [0xC1, 0x34] .cmpIzx && reads [0xD1, 0x34] .cmpIzy) = true := by decide

theorem test_decode_CPX : (reads [0b11100000, 0x34] .cpxImm && reads [0xE4, 0x34] .cpxZp && reads [0xEC, 0x34, 0x12] .cpxAbs) = true := by decide

theorem test_decode_CPY : (reads [0b11000000, 0x34] .cpyImm && reads [0xC4, 0x34] .cpyZp && reads [0xCC, 0x34, 0x12] .cpyAbs) = true := by decide

theorem test_decode_ASL : (reads [0b00001010] .aslAcc && reads [0x06, 0x34] .aslZp && reads [0x16, 0x34] .aslZpx &&
    reads [0x0E, 0x34, 0x12] .aslAbs && reads [0x1E, 0x34, 0x12] .aslAbx) = true := by decide

theorem test_decode_LSR : (reads [0b01001010] .lsrAcc && reads [0x46, 0x34] .lsrZp && reads [0x56, 0x34] .lsrZpx &&
    reads [0x4E, 0x34, 0x12] .lsrAbs && reads [0x5E, 0x34, 0x12] .lsrAbx) = true := by decide

theorem test_decode_ROL : (reads [0b00101010] .rolAcc && reads [0x26, 0x34] .rolZp && reads [0x36, 0x34] .rolZpx &&
    reads [0x2E, 0x34, 0x12] .rolAbs && reads [0x3E, 0x34, 0x12] .rolAbx) = true := by decide

theorem test_decode_ROR : (reads [0b01101010] .rorAcc && reads [0x66, 0x34] .rorZp && reads [0x76, 0x34] .rorZpx &&
    reads [0x6E, 0x34, 0x12] .rorAbs && reads [0x7E, 0x34, 0x12] .rorAbx) = true := by decide

theorem test_decode_INC : (reads [0b11100110, 0x34] .incZp && reads [0xF6, 0x34] .incZpx && reads [0xEE, 0x34, 0x12] .incAbs &&
    reads [0xFE, 0x34, 0x12] .incAbx) = true := by decide

theorem test_decode_DEC : (reads [0b11000110, 0x34] .decZp && reads [0xD6, 0x34] .decZpx && reads [0xCE, 0x34, 0x12] .decAbs &&
    reads [0xDE, 0x34, 0x12] .decAbx) = true := by decide

theorem test_decode_index_steps : (reads [0b11101000] .inx && reads [0xC8] .iny && reads [0xCA] .dex &&
    reads [0x88] .dey) = true := by decide

theorem test_decode_LDA : (reads [0b10101001, 0x34] .ldaImm && reads [0xA5, 0x34] .ldaZp && reads [0xB5, 0x34] .ldaZpx &&
    reads [0xAD, 0x34, 0x12] .ldaAbs && reads [0xBD, 0x34, 0x12] .ldaAbx && reads [0xB9, 0x34, 0x12] .ldaAby &&
    reads [0xA1, 0x34] .ldaIzx && reads [0xB1, 0x34] .ldaIzy) = true := by decide

theorem test_decode_LDX : (reads [0b10100010, 0x34] .ldxImm && reads [0xA6, 0x34] .ldxZp && reads [0xB6, 0x34] .ldxZpy &&
    reads [0xAE, 0x34, 0x12] .ldxAbs && reads [0xBE, 0x34, 0x12] .ldxAby) = true := by decide

theorem test_decode_LDY : (reads [0b10100000, 0x34] .ldyImm && reads [0xA4, 0x34] .ldyZp && reads [0xB4, 0x34] .ldyZpx &&
    reads [0xAC, 0x34, 0x12] .ldyAbs && reads [0xBC, 0x34, 0x12] .ldyAbx) = true := by decide

theorem test_decode_STA : (reads [0b10000101, 0x34] .staZp && reads [0x95, 0x34] .staZpx && reads [0x8D, 0x34, 0x12] .staAbs &&
    reads [0x9D, 0x34, 0x12] .staAbx && reads [0x99, 0x34, 0x12] .staAby && reads [0x81, 0x34] .staIzx &&
    reads [0x91, 0x34] .staIzy) = true := by decide

theorem test_decode_STX : (reads [0b10000110, 0x34] .stxZp && reads [0x96, 0x34] .stxZpy && reads [0x8E, 0x34, 0x12] .stxAbs) = true := by decide

theorem test_decode_STY : (reads [0b10000100, 0x34] .styZp && reads [0x94, 0x34] .styZpx && reads [0x8C, 0x34, 0x12] .styAbs) = true := by decide

theorem test_decode_transfers : (reads [0b10101010] .tax && reads [0xA8] .tay && reads [0xBA] .tsx &&
    reads [0x8A] .txa && reads [0x98] .tya && reads [0x9A] .txs) = true := by decide

theorem test_decode_stack : (reads [0b01001000] .pha && reads [0x08] .php && reads [0x68] .pla &&
    reads [0x28] .plp) = true := by decide

theorem test_decode_branches : (reads [0b10010000, 0x34] .bcc && reads [0xB0, 0x34] .bcs && reads [0xF0, 0x34] .beq &&
    reads [0xD0, 0x34] .bne && reads [0x30, 0x34] .bmi && reads [0x10, 0x34] .bpl &&
    reads [0x50, 0x34] .bvc && reads [0x70, 0x34] .bvs) = true := by decide

theorem test_decode_jumps_calls_returns : (reads [0b01001100, 0x34, 0x12] .jmpAbs && reads [0x6C, 0x34, 0x12] .jmpInd && reads [0x20, 0x34, 0x12] .jsr &&
    reads [0x60] .rts && reads [0x40] .rti && reads [0x00] .brk) = true := by decide

theorem test_decode_flags_and_nop : (reads [0b00011000] .clc && reads [0x38] .sec && reads [0x58] .cli &&
    reads [0x78] .sei && reads [0xB8] .clv && reads [0xD8] .cld &&
    reads [0xF8] .sed && reads [0xEA] .nop) = true := by decide

theorem test_decode_unmapped : (reads [0b00000010] (.unmapped 0x02) && reads [0x80] (.unmapped 0x80) &&
    reads [0x9E] (.unmapped 0x9E) && reads [0xFF] (.unmapped 0xFF)) = true := by decide

/-- The encoder writes the bytes of R91's order: opcode, low, high. -/
theorem test_encode : encode .ldaAbx [0xF0, 0x20] = [0xBD, 0xF0, 0x20] := by decide

/-- Bit 0 of a table word is bit 0 of the opcode; bits above the given ones are 0. -/
theorem test_decodeTableWord : decodeTableWord 24 0x20F0BD = some .ldaAbx ∧ decodeTableWord 8 0xBD = some .ldaAbx ∧
    decodeTableWord 8 0x02 = some (.unmapped 0x02) ∧ decodeTableWord 7 0x02 = none := by decide

theorem test_every_row_decodes : ∀ op : Byte, decodeTableWord 8 op.toNat = some (decodeOpcode op) := by decide

/-! ### One step -/

/-- A boundary inside `run()` on the flat RAM host, with the given registers and bytes. -/
def start (a x y sp p : Byte) (pc : Addr) (cells : List (Addr × Byte)) : State :=
  { State.powerOn with
    a := a, x := x, y := y, sp := sp, p := p, pc := pc, running := true
    mem := cells.foldl (fun m c => m.write c.1 c.2) [] }

/-- The same under `EXTRA_DUMMY_READS = true`. -/
def withDummies (s : State) : State := { s with config := { s.config with extraDummyReads := true } }

def r (a : Addr) (v : Byte) : Event := .read a v

def w (a : Addr) (v : Byte) : Event := .write a v

/-- The registers A X Y S P and PC after an outcome, and the trace, oldest first. -/
def seen (o : Host.Outcome State Fault Refusal) : Option (List Byte × Addr × List Event) :=
  match o with
  | .next t => some ([t.a, t.x, t.y, t.sp, t.p], t.pc, t.log.reverse)
  | .fault _ => none
  | .refused _ => none

/-- The registers alone. -/
def regs (o : Host.Outcome State Fault Refusal) : Option (List Byte × Addr) := (seen o).map fun t => (t.1, t.2.1)

/-! Vectors of 95_test_vectors.md L2.1 to L2.5, L1.1, L1.2 and L1.9. -/

theorem test_adcImm : regs (step (start 0x09 0x00 0x00 0xFF 0x2C 0x0200
    [(0x0200, 0x69), (0x0201, 0x01)])) =
    some ([0x09, 0x00, 0x00, 0xFF, 0x2C], 0x0202) := by decide

theorem test_sbcImm : regs (step (start 0x10 0x00 0x00 0xFF 0x2D 0x0200
    [(0x0200, 0xE9), (0x0201, 0x01)])) =
    some ([0x10, 0x00, 0x00, 0xFF, 0x2D], 0x0202) := by decide

theorem test_adcImm_2 : regs (step (start 0xFF 0x00 0x00 0xFF 0x25 0x0200
    [(0x0200, 0x69), (0x0201, 0xFF)])) =
    some ([0xFF, 0x00, 0x00, 0xFF, 0xA5], 0x0202) := by decide

theorem test_sbcImm_2 : regs (step (start 0x00 0x00 0x00 0xFF 0x24 0x0200
    [(0x0200, 0xE9)])) =
    some ([0xFF, 0x00, 0x00, 0xFF, 0xA4], 0x0202) := by decide

theorem test_bne : seen (step (start 0x00 0x00 0x00 0xFF 0x24 0x02F0
    [(0x02F0, 0xD0), (0x02F1, 0x20)])) =
    some ([0x00, 0x00, 0x00, 0xFF, 0x24], 0x0312,
      [r 0x02F0 0xD0, r 0x02F1 0x20, r 0x0212 0x00, r 0x02F2 0x00]) := by decide

theorem test_bne_2 : seen (step (start 0x00 0x00 0x00 0xFF 0x24 0x0300
    [(0x0300, 0xD0), (0x0301, 0xF0)])) =
    some ([0x00, 0x00, 0x00, 0xFF, 0x24], 0x02F2,
      [r 0x0300 0xD0, r 0x0301 0xF0, r 0x03F2 0x00, r 0x0302 0x00]) := by decide

theorem test_ldaImm : seen (step (start 0x00 0x00 0x00 0xFF 0x24 0x0200
    [(0x0200, 0xA9), (0x0201, 0x80)])) =
    some ([0x80, 0x00, 0x00, 0xFF, 0xA4], 0x0202,
      [r 0x0200 0xA9, r 0x0201 0x80]) := by decide

theorem test_ldaZp : seen (step (start 0x00 0x00 0x00 0xFF 0x24 0x0200
    [(0x0010, 0x55), (0x0200, 0xA5), (0x0201, 0x10)])) =
    some ([0x55, 0x00, 0x00, 0xFF, 0x24], 0x0202,
      [r 0x0200 0xA5, r 0x0201 0x10, r 0x0010 0x55]) := by decide

theorem test_staZp : seen (step (start 0x77 0x00 0x00 0xFF 0x24 0x0200
    [(0x0200, 0x85), (0x0201, 0x10)])) =
    some ([0x77, 0x00, 0x00, 0xFF, 0x24], 0x0202,
      [r 0x0200 0x85, r 0x0201 0x10, w 0x0010 0x77]) := by decide

theorem test_incZp : seen (step (start 0x00 0x00 0x00 0xFF 0x24 0x0200
    [(0x0010, 0xFF), (0x0200, 0xE6), (0x0201, 0x10)])) =
    some ([0x00, 0x00, 0x00, 0xFF, 0x26], 0x0202,
      [r 0x0200 0xE6, r 0x0201 0x10, r 0x0010 0xFF, w 0x0010 0xFF, w 0x0010 0x00]) := by decide

theorem test_ldaZpx : seen (step (start 0x00 0x20 0x00 0xFF 0x24 0x0200
    [(0x0010, 0x66), (0x0200, 0xB5), (0x0201, 0xF0)])) =
    some ([0x66, 0x20, 0x00, 0xFF, 0x24], 0x0202,
      [r 0x0200 0xB5, r 0x0201 0xF0, r 0x00F0 0x00, r 0x0010 0x66]) := by decide

theorem test_ldxZpy : seen (step (start 0x00 0x00 0x05 0xFF 0x24 0x0200
    [(0x0015, 0x01), (0x0200, 0xB6), (0x0201, 0x10)])) =
    some ([0x00, 0x01, 0x05, 0xFF, 0x24], 0x0202,
      [r 0x0200 0xB6, r 0x0201 0x10, r 0x0010 0x00, r 0x0015 0x01]) := by decide

theorem test_staZpx : seen (step (start 0x12 0x01 0x00 0xFF 0x24 0x0200
    [(0x0200, 0x95), (0x0201, 0x80)])) =
    some ([0x12, 0x01, 0x00, 0xFF, 0x24], 0x0202,
      [r 0x0200 0x95, r 0x0201 0x80, r 0x0080 0x00, w 0x0081 0x12]) := by decide

theorem test_aslZpx : seen (step (start 0x00 0x01 0x00 0xFF 0x24 0x0200
    [(0x0081, 0x81), (0x0200, 0x16), (0x0201, 0x80)])) =
    some ([0x00, 0x01, 0x00, 0xFF, 0x25], 0x0202,
      [r 0x0200 0x16, r 0x0201 0x80, r 0x0080 0x00, r 0x0081 0x81, w 0x0081 0x81, w 0x0081 0x02]) := by decide

theorem test_ldaAbs : seen (step (start 0x00 0x00 0x00 0xFF 0x24 0x0200
    [(0x0200, 0xAD), (0x0201, 0x34), (0x0202, 0x12), (0x1234, 0x9A)])) =
    some ([0x9A, 0x00, 0x00, 0xFF, 0xA4], 0x0203,
      [r 0x0200 0xAD, r 0x0201 0x34, r 0x0202 0x12, r 0x1234 0x9A]) := by decide

theorem test_staAbs : seen (step (start 0x5A 0x00 0x00 0xFF 0x24 0x0200
    [(0x0200, 0x8D), (0x0201, 0x34), (0x0202, 0x12)])) =
    some ([0x5A, 0x00, 0x00, 0xFF, 0x24], 0x0203,
      [r 0x0200 0x8D, r 0x0201 0x34, r 0x0202 0x12, w 0x1234 0x5A]) := by decide

theorem test_lsrAbs : seen (step (start 0x00 0x00 0x00 0xFF 0x24 0x0200
    [(0x0200, 0x4E), (0x0201, 0x34), (0x0202, 0x12), (0x1234, 0x03)])) =
    some ([0x00, 0x00, 0x00, 0xFF, 0x25], 0x0203,
      [r 0x0200 0x4E, r 0x0201 0x34, r 0x0202 0x12, r 0x1234 0x03, w 0x1234 0x03, w 0x1234 0x01]) := by decide

theorem test_ldaAbx : seen (step (start 0x00 0x05 0x00 0xFF 0x24 0x0200
    [(0x0200, 0xBD), (0x0202, 0x30), (0x3005, 0x11)])) =
    some ([0x11, 0x05, 0x00, 0xFF, 0x24], 0x0203,
      [r 0x0200 0xBD, r 0x0201 0x00, r 0x0202 0x30, r 0x3005 0x11]) := by decide

theorem test_ldaAby : seen (step (start 0x00 0x00 0x01 0xFF 0x24 0x0200
    [(0x0200, 0xB9), (0x0201, 0xFF), (0x0202, 0x30), (0x3100, 0x22)])) =
    some ([0x22, 0x00, 0x01, 0xFF, 0x24], 0x0203,
      [r 0x0200 0xB9, r 0x0201 0xFF, r 0x0202 0x30, r 0x3000 0x00, r 0x3100 0x22]) := by decide

theorem test_staAbx : seen (step (start 0x5A 0x01 0x00 0xFF 0x24 0x0200
    [(0x0200, 0x9D), (0x0202, 0x20)])) =
    some ([0x5A, 0x01, 0x00, 0xFF, 0x24], 0x0203,
      [r 0x0200 0x9D, r 0x0201 0x00, r 0x0202 0x20, r 0x2001 0x00, w 0x2001 0x5A]) := by decide

theorem test_staAby : seen (step (start 0x5A 0x00 0x02 0xFF 0x24 0x0200
    [(0x0200, 0x99), (0x0201, 0xFF), (0x0202, 0x20)])) =
    some ([0x5A, 0x00, 0x02, 0xFF, 0x24], 0x0203,
      [r 0x0200 0x99, r 0x0201 0xFF, r 0x0202 0x20, r 0x2001 0x00, w 0x2101 0x5A]) := by decide

theorem test_aslAbx : seen (step (start 0x00 0x01 0x00 0xFF 0x24 0x0200
    [(0x0200, 0x1E), (0x0201, 0xFF), (0x0202, 0x20), (0x2100, 0x40)])) =
    some ([0x00, 0x01, 0x00, 0xFF, 0xA4], 0x0203,
      [r 0x0200 0x1E, r 0x0201 0xFF, r 0x0202 0x20, r 0x2000 0x00, r 0x2100 0x40, w 0x2100 0x40, w 0x2100 0x80]) := by decide

theorem test_ldaAbx_2 : seen (step (start 0x00 0x02 0x00 0xFF 0x24 0x0200
    [(0x0001, 0x33), (0x0200, 0xBD), (0x0201, 0xFF), (0x0202, 0xFF)])) =
    some ([0x33, 0x02, 0x00, 0xFF, 0x24], 0x0203,
      [r 0x0200 0xBD, r 0x0201 0xFF, r 0x0202 0xFF, r 0xFF01 0x00, r 0x0001 0x33]) := by decide

theorem test_ldaIzx : seen (step (start 0x00 0x04 0x00 0xFF 0x24 0x0200
    [(0x0025, 0x30), (0x0200, 0xA1), (0x0201, 0x20), (0x3000, 0x44)])) =
    some ([0x44, 0x04, 0x00, 0xFF, 0x24], 0x0202,
      [r 0x0200 0xA1, r 0x0201 0x20, r 0x0020 0x00, r 0x0024 0x00, r 0x0025 0x30, r 0x3000 0x44]) := by decide

theorem test_ldaIzx_2 : seen (step (start 0x00 0x01 0x00 0xFF 0x24 0x0200
    [(0x0000, 0x12), (0x00FF, 0x34), (0x0200, 0xA1), (0x0201, 0xFE), (0x1234, 0x56)])) =
    some ([0x56, 0x01, 0x00, 0xFF, 0x24], 0x0202,
      [r 0x0200 0xA1, r 0x0201 0xFE, r 0x00FE 0x00, r 0x00FF 0x34, r 0x0000 0x12, r 0x1234 0x56]) := by decide

theorem test_staIzx : seen (step (start 0x99 0x00 0x00 0xFF 0x24 0x0200
    [(0x0021, 0x40), (0x0200, 0x81), (0x0201, 0x20)])) =
    some ([0x99, 0x00, 0x00, 0xFF, 0x24], 0x0202,
      [r 0x0200 0x81, r 0x0201 0x20, r 0x0020 0x00, r 0x0020 0x00, r 0x0021 0x40, w 0x4000 0x99]) := by decide

theorem test_ldaIzy : seen (step (start 0x00 0x00 0x10 0xFF 0x24 0x0200
    [(0x0041, 0x30), (0x0200, 0xB1), (0x0201, 0x40), (0x3010, 0x77)])) =
    some ([0x77, 0x00, 0x10, 0xFF, 0x24], 0x0202,
      [r 0x0200 0xB1, r 0x0201 0x40, r 0x0040 0x00, r 0x0041 0x30, r 0x3010 0x77]) := by decide

theorem test_ldaIzy_2 : seen (step (start 0x00 0x00 0x10 0xFF 0x24 0x0200
    [(0x0040, 0xF8), (0x0041, 0x30), (0x0200, 0xB1), (0x0201, 0x40), (0x3108, 0x78)])) =
    some ([0x78, 0x00, 0x10, 0xFF, 0x24], 0x0202,
      [r 0x0200 0xB1, r 0x0201 0x40, r 0x0040 0xF8, r 0x0041 0x30, r 0x3008 0x00, r 0x3108 0x78]) := by decide

theorem test_staIzy : seen (step (start 0x01 0x00 0x01 0xFF 0x24 0x0200
    [(0x0041, 0x30), (0x0200, 0x91), (0x0201, 0x40)])) =
    some ([0x01, 0x00, 0x01, 0xFF, 0x24], 0x0202,
      [r 0x0200 0x91, r 0x0201 0x40, r 0x0040 0x00, r 0x0041 0x30, r 0x3001 0x00, w 0x3001 0x01]) := by decide

theorem test_aslAcc : seen (step (start 0x81 0x00 0x00 0xFF 0x24 0x0200
    [(0x0200, 0x0A)])) =
    some ([0x02, 0x00, 0x00, 0xFF, 0x25], 0x0201,
      [r 0x0200 0x0A]) := by decide

theorem test_jmpInd : seen (step (start 0x00 0x00 0x00 0xFF 0x24 0x0200
    [(0x0200, 0x6C), (0x0202, 0x30), (0x3000, 0x34), (0x3001, 0x12)])) =
    some ([0x00, 0x00, 0x00, 0xFF, 0x24], 0x1234,
      [r 0x0200 0x6C, r 0x0201 0x00, r 0x0202 0x30, r 0x3000 0x34, r 0x3001 0x12]) := by decide

theorem test_pha : seen (step (start 0x42 0x00 0x00 0xFF 0x24 0x0200
    [(0x0200, 0x48)])) =
    some ([0x42, 0x00, 0x00, 0xFE, 0x24], 0x0201,
      [r 0x0200 0x48, w 0x01FF 0x42]) := by decide

theorem test_pha_2 : seen (step (start 0x42 0x00 0x00 0x00 0x24 0x0200
    [(0x0200, 0x48)])) =
    some ([0x42, 0x00, 0x00, 0xFF, 0x24], 0x0201,
      [r 0x0200 0x48, w 0x0100 0x42]) := by decide

theorem test_php : seen (step (start 0x00 0x00 0x00 0xFF 0x20 0x0200
    [(0x0200, 0x08)])) =
    some ([0x00, 0x00, 0x00, 0xFE, 0x20], 0x0201,
      [r 0x0200 0x08, w 0x01FF 0x30]) := by decide

theorem test_php_2 : seen (step (start 0x00 0x00 0x00 0xFF 0xEF 0x0200
    [(0x0200, 0x08)])) =
    some ([0x00, 0x00, 0x00, 0xFE, 0xEF], 0x0201,
      [r 0x0200 0x08, w 0x01FF 0xFF]) := by decide

theorem test_pla : seen (step (start 0x00 0x00 0x00 0xFE 0x24 0x0200
    [(0x0200, 0x68)])) =
    some ([0x00, 0x00, 0x00, 0xFF, 0x26], 0x0201,
      [r 0x0200 0x68, r 0x01FF 0x00]) := by decide

theorem test_pla_2 : seen (step (start 0x00 0x00 0x00 0xFF 0x24 0x0200
    [(0x0100, 0x80), (0x0200, 0x68)])) =
    some ([0x80, 0x00, 0x00, 0x00, 0xA4], 0x0201,
      [r 0x0200 0x68, r 0x0100 0x80]) := by decide

theorem test_plp : seen (step (start 0x00 0x00 0x00 0xFE 0x24 0x0200
    [(0x01FF, 0xFF), (0x0200, 0x28)])) =
    some ([0x00, 0x00, 0x00, 0xFF, 0xEF], 0x0201,
      [r 0x0200 0x28, r 0x01FF 0xFF]) := by decide

theorem test_plp_2 : seen (step (start 0x00 0x00 0x00 0xFE 0xFF 0x0200
    [(0x0200, 0x28)])) =
    some ([0x00, 0x00, 0x00, 0xFF, 0x20], 0x0201,
      [r 0x0200 0x28, r 0x01FF 0x00]) := by decide

theorem test_txs : seen (step (start 0x00 0x10 0x00 0xFF 0x24 0x0200
    [(0x0200, 0x9A)])) =
    some ([0x00, 0x10, 0x00, 0x10, 0x24], 0x0201,
      [r 0x0200 0x9A]) := by decide

theorem test_tsx : seen (step (start 0x00 0x00 0x00 0xFD 0x24 0x0200
    [(0x0200, 0xBA)])) =
    some ([0x00, 0xFD, 0x00, 0xFD, 0xA4], 0x0201,
      [r 0x0200 0xBA]) := by decide

theorem test_jmpAbs : seen (step (start 0x00 0x00 0x00 0xFF 0x24 0x0200
    [(0x0200, 0x4C), (0x0202, 0x20)])) =
    some ([0x00, 0x00, 0x00, 0xFF, 0x24], 0x2000,
      [r 0x0200 0x4C, r 0x0201 0x00, r 0x0202 0x20]) := by decide

theorem test_jmpInd_2 : seen (step (start 0x00 0x00 0x00 0xFF 0x24 0x0200
    [(0x0200, 0x6C), (0x0201, 0xFF), (0x0202, 0x30), (0x3000, 0x50), (0x30FF, 0x80), (0x3100, 0x40)])) =
    some ([0x00, 0x00, 0x00, 0xFF, 0x24], 0x5080,
      [r 0x0200 0x6C, r 0x0201 0xFF, r 0x0202 0x30, r 0x30FF 0x80, r 0x3000 0x50]) := by decide

theorem test_jsr : seen (step (start 0x00 0x00 0x00 0xFF 0x24 0x0200
    [(0x0200, 0x20), (0x0202, 0x30)])) =
    some ([0x00, 0x00, 0x00, 0xFD, 0x24], 0x3000,
      [r 0x0200 0x20, r 0x0201 0x00, w 0x01FF 0x02, w 0x01FE 0x02, r 0x0202 0x30]) := by decide

theorem test_jsr_2 : seen (step (start 0x00 0x00 0x00 0x00 0x24 0x0200
    [(0x0200, 0x20), (0x0202, 0x30)])) =
    some ([0x00, 0x00, 0x00, 0xFE, 0x24], 0x3000,
      [r 0x0200 0x20, r 0x0201 0x00, w 0x0100 0x02, w 0x01FF 0x02, r 0x0202 0x30]) := by decide

theorem test_rts : seen (step (start 0x00 0x00 0x00 0xFD 0x24 0x0200
    [(0x01FE, 0x02), (0x01FF, 0x02), (0x0200, 0x60)])) =
    some ([0x00, 0x00, 0x00, 0xFF, 0x24], 0x0203,
      [r 0x0200 0x60, r 0x01FE 0x02, r 0x01FF 0x02]) := by decide

theorem test_rts_2 : seen (step (start 0x00 0x00 0x00 0xFD 0x24 0x0200
    [(0x01FE, 0xFF), (0x01FF, 0xFF), (0x0200, 0x60)])) =
    some ([0x00, 0x00, 0x00, 0xFF, 0x24], 0x0000,
      [r 0x0200 0x60, r 0x01FE 0xFF, r 0x01FF 0xFF]) := by decide

theorem test_rti : seen (step (start 0x00 0x00 0x00 0xFC 0x24 0x0200
    [(0x01FD, 0x30), (0x01FE, 0x02), (0x01FF, 0x10), (0x0200, 0x40)])) =
    some ([0x00, 0x00, 0x00, 0xFF, 0x20], 0x1002,
      [r 0x0200 0x40, r 0x01FD 0x30, r 0x01FE 0x02, r 0x01FF 0x10]) := by decide

theorem test_rti_2 : seen (step (start 0x00 0x00 0x00 0xFC 0x24 0x0200
    [(0x01FD, 0xC3), (0x01FF, 0x80), (0x0200, 0x40)])) =
    some ([0x00, 0x00, 0x00, 0xFF, 0xE3], 0x8000,
      [r 0x0200 0x40, r 0x01FD 0xC3, r 0x01FE 0x00, r 0x01FF 0x80]) := by decide

theorem test_brk : seen (step (start 0x00 0x00 0x00 0xFF 0x24 0x0200
    [(0x0201, 0xFF), (0xFFFF, 0x90)])) =
    some ([0x00, 0x00, 0x00, 0xFC, 0x24], 0x9000,
      [r 0x0200 0x00, r 0x0201 0xFF, w 0x01FF 0x02, w 0x01FE 0x02, w 0x01FD 0x34, r 0xFFFE 0x00, r 0xFFFF 0x90]) := by decide

theorem test_brk_2 : seen (step (start 0x00 0x00 0x00 0x01 0xFF 0x0200
    [(0x0201, 0xFF), (0xFFFF, 0x90)])) =
    some ([0x00, 0x00, 0x00, 0xFE, 0xFF], 0x9000,
      [r 0x0200 0x00, r 0x0201 0xFF, w 0x0101 0x02, w 0x0100 0x02, w 0x01FF 0xFF, r 0xFFFE 0x00, r 0xFFFF 0x90]) := by decide

theorem test_andImm : regs (step (start 0xF0 0x00 0x00 0xFF 0x24 0x0200
    [(0x0200, 0x29), (0x0201, 0x0F)])) =
    some ([0x00, 0x00, 0x00, 0xFF, 0x26], 0x0202) := by decide

theorem test_andImm_2 : regs (step (start 0x81 0x00 0x00 0xFF 0x24 0x0200
    [(0x0200, 0x29), (0x0201, 0xC3)])) =
    some ([0x81, 0x00, 0x00, 0xFF, 0xA4], 0x0202) := by decide

theorem test_oraImm : regs (step (start 0x00 0x00 0x00 0xFF 0x24 0x0200
    [(0x0200, 0x09)])) =
    some ([0x00, 0x00, 0x00, 0xFF, 0x26], 0x0202) := by decide

theorem test_oraImm_2 : regs (step (start 0x01 0x00 0x00 0xFF 0x24 0x0200
    [(0x0200, 0x09), (0x0201, 0x80)])) =
    some ([0x81, 0x00, 0x00, 0xFF, 0xA4], 0x0202) := by decide

theorem test_eorImm : regs (step (start 0x0F 0x00 0x00 0xFF 0x24 0x0200
    [(0x0200, 0x49), (0x0201, 0xFF)])) =
    some ([0xF0, 0x00, 0x00, 0xFF, 0xA4], 0x0202) := by decide

theorem test_eorImm_2 : regs (step (start 0x5A 0x00 0x00 0xFF 0x24 0x0200
    [(0x0200, 0x49), (0x0201, 0x5A)])) =
    some ([0x00, 0x00, 0x00, 0xFF, 0x26], 0x0202) := by decide

theorem test_aslAcc_2 : regs (step (start 0x80 0x00 0x00 0xFF 0x24 0x0200
    [(0x0200, 0x0A)])) =
    some ([0x00, 0x00, 0x00, 0xFF, 0x27], 0x0201) := by decide

theorem test_lsrAcc : regs (step (start 0x01 0x00 0x00 0xFF 0x24 0x0200
    [(0x0200, 0x4A)])) =
    some ([0x00, 0x00, 0x00, 0xFF, 0x27], 0x0201) := by decide

theorem test_lsrAcc_2 : regs (step (start 0xFF 0x00 0x00 0xFF 0x25 0x0200
    [(0x0200, 0x4A)])) =
    some ([0x7F, 0x00, 0x00, 0xFF, 0x25], 0x0201) := by decide

theorem test_rolAcc : regs (step (start 0x80 0x00 0x00 0xFF 0x24 0x0200
    [(0x0200, 0x2A)])) =
    some ([0x00, 0x00, 0x00, 0xFF, 0x27], 0x0201) := by decide

theorem test_rolAcc_2 : regs (step (start 0x40 0x00 0x00 0xFF 0x25 0x0200
    [(0x0200, 0x2A)])) =
    some ([0x81, 0x00, 0x00, 0xFF, 0xA4], 0x0201) := by decide

theorem test_rorAcc : regs (step (start 0x01 0x00 0x00 0xFF 0x24 0x0200
    [(0x0200, 0x6A)])) =
    some ([0x00, 0x00, 0x00, 0xFF, 0x27], 0x0201) := by decide

theorem test_rorAcc_2 : regs (step (start 0x00 0x00 0x00 0xFF 0x25 0x0200
    [(0x0200, 0x6A)])) =
    some ([0x80, 0x00, 0x00, 0xFF, 0xA4], 0x0201) := by decide

theorem test_bitZp : regs (step (start 0x01 0x00 0x00 0xFF 0x24 0x0200
    [(0x0010, 0xC0), (0x0200, 0x24), (0x0201, 0x10)])) =
    some ([0x01, 0x00, 0x00, 0xFF, 0xE6], 0x0202) := by decide

theorem test_bitZp_2 : regs (step (start 0xFF 0x00 0x00 0xFF 0xE6 0x0200
    [(0x0010, 0x3F), (0x0200, 0x24), (0x0201, 0x10)])) =
    some ([0xFF, 0x00, 0x00, 0xFF, 0x24], 0x0202) := by decide

theorem test_cmpImm : regs (step (start 0x40 0x00 0x00 0xFF 0x24 0x0200
    [(0x0200, 0xC9), (0x0201, 0x40)])) =
    some ([0x40, 0x00, 0x00, 0xFF, 0x27], 0x0202) := by decide

theorem test_cmpImm_2 : regs (step (start 0x01 0x00 0x00 0xFF 0x24 0x0200
    [(0x0200, 0xC9), (0x0201, 0x80)])) =
    some ([0x01, 0x00, 0x00, 0xFF, 0xA4], 0x0202) := by decide

theorem test_cpxImm : regs (step (start 0x00 0x0F 0x00 0xFF 0x24 0x0200
    [(0x0200, 0xE0), (0x0201, 0x10)])) =
    some ([0x00, 0x0F, 0x00, 0xFF, 0xA4], 0x0202) := by decide

theorem test_cpyImm : regs (step (start 0x00 0x00 0xFF 0xFF 0x24 0x0200
    [(0x0200, 0xC0)])) =
    some ([0x00, 0x00, 0xFF, 0xFF, 0xA5], 0x0202) := by decide

theorem test_dex : regs (step (start 0x00 0x00 0x00 0xFF 0x24 0x0200
    [(0x0200, 0xCA)])) =
    some ([0x00, 0xFF, 0x00, 0xFF, 0xA4], 0x0201) := by decide

theorem test_dey : regs (step (start 0x00 0x00 0x01 0xFF 0x24 0x0200
    [(0x0200, 0x88)])) =
    some ([0x00, 0x00, 0x00, 0xFF, 0x26], 0x0201) := by decide

theorem test_inx : regs (step (start 0x00 0xFF 0x00 0xFF 0x24 0x0200
    [(0x0200, 0xE8)])) =
    some ([0x00, 0x00, 0x00, 0xFF, 0x26], 0x0201) := by decide

theorem test_iny : regs (step (start 0x00 0x00 0x7F 0xFF 0x24 0x0200
    [(0x0200, 0xC8)])) =
    some ([0x00, 0x00, 0x80, 0xFF, 0xA4], 0x0201) := by decide

theorem test_incZp_2 : regs (step (start 0x00 0x00 0x00 0xFF 0x65 0x0200
    [(0x0010, 0xFF), (0x0200, 0xE6), (0x0201, 0x10)])) =
    some ([0x00, 0x00, 0x00, 0xFF, 0x67], 0x0202) := by decide

theorem test_ldaImm_2 : regs (step (start 0x55 0x00 0x00 0xFF 0xA4 0x0200
    [(0x0200, 0xA9)])) =
    some ([0x00, 0x00, 0x00, 0xFF, 0x26], 0x0202) := by decide

theorem test_ldyImm : regs (step (start 0x00 0x00 0x00 0xFF 0x24 0x0200
    [(0x0200, 0xA0), (0x0201, 0x80)])) =
    some ([0x00, 0x00, 0x80, 0xFF, 0xA4], 0x0202) := by decide

theorem test_tsx_2 : regs (step (start 0x00 0x00 0x00 0x00 0x24 0x0200
    [(0x0200, 0xBA)])) =
    some ([0x00, 0x00, 0x00, 0x00, 0x26], 0x0201) := by decide

theorem test_txa : regs (step (start 0x00 0x80 0x00 0xFF 0x24 0x0200
    [(0x0200, 0x8A)])) =
    some ([0x80, 0x80, 0x00, 0xFF, 0xA4], 0x0201) := by decide

theorem test_bpl : seen (step (start 0x00 0x00 0x00 0xFF 0x24 0x0200
    [(0x0200, 0x10), (0x0201, 0x10)])) =
    some ([0x00, 0x00, 0x00, 0xFF, 0x24], 0x0212,
      [r 0x0200 0x10, r 0x0201 0x10, r 0x0202 0x00]) := by decide

theorem test_bpl_2 : seen (step (start 0x00 0x00 0x00 0xFF 0xA4 0x0200
    [(0x0200, 0x10), (0x0201, 0x10)])) =
    some ([0x00, 0x00, 0x00, 0xFF, 0xA4], 0x0202,
      [r 0x0200 0x10, r 0x0201 0x10]) := by decide

theorem test_bmi : seen (step (start 0x00 0x00 0x00 0xFF 0xA4 0x0200
    [(0x0200, 0x30), (0x0201, 0x10)])) =
    some ([0x00, 0x00, 0x00, 0xFF, 0xA4], 0x0212,
      [r 0x0200 0x30, r 0x0201 0x10, r 0x0202 0x00]) := by decide

theorem test_bmi_2 : seen (step (start 0x00 0x00 0x00 0xFF 0x24 0x0200
    [(0x0200, 0x30), (0x0201, 0x10)])) =
    some ([0x00, 0x00, 0x00, 0xFF, 0x24], 0x0202,
      [r 0x0200 0x30, r 0x0201 0x10]) := by decide

theorem test_bvc : seen (step (start 0x00 0x00 0x00 0xFF 0x24 0x0200
    [(0x0200, 0x50), (0x0201, 0x10)])) =
    some ([0x00, 0x00, 0x00, 0xFF, 0x24], 0x0212,
      [r 0x0200 0x50, r 0x0201 0x10, r 0x0202 0x00]) := by decide

theorem test_bvc_2 : seen (step (start 0x00 0x00 0x00 0xFF 0x64 0x0200
    [(0x0200, 0x50), (0x0201, 0x10)])) =
    some ([0x00, 0x00, 0x00, 0xFF, 0x64], 0x0202,
      [r 0x0200 0x50, r 0x0201 0x10]) := by decide

theorem test_bvs : seen (step (start 0x00 0x00 0x00 0xFF 0x64 0x0200
    [(0x0200, 0x70), (0x0201, 0x10)])) =
    some ([0x00, 0x00, 0x00, 0xFF, 0x64], 0x0212,
      [r 0x0200 0x70, r 0x0201 0x10, r 0x0202 0x00]) := by decide

theorem test_bvs_2 : seen (step (start 0x00 0x00 0x00 0xFF 0x24 0x0200
    [(0x0200, 0x70), (0x0201, 0x10)])) =
    some ([0x00, 0x00, 0x00, 0xFF, 0x24], 0x0202,
      [r 0x0200 0x70, r 0x0201 0x10]) := by decide

theorem test_bcc : seen (step (start 0x00 0x00 0x00 0xFF 0x24 0x0200
    [(0x0200, 0x90), (0x0201, 0x10)])) =
    some ([0x00, 0x00, 0x00, 0xFF, 0x24], 0x0212,
      [r 0x0200 0x90, r 0x0201 0x10, r 0x0202 0x00]) := by decide

theorem test_bcc_2 : seen (step (start 0x00 0x00 0x00 0xFF 0x25 0x0200
    [(0x0200, 0x90), (0x0201, 0x10)])) =
    some ([0x00, 0x00, 0x00, 0xFF, 0x25], 0x0202,
      [r 0x0200 0x90, r 0x0201 0x10]) := by decide

theorem test_bcs : seen (step (start 0x00 0x00 0x00 0xFF 0x25 0x0200
    [(0x0200, 0xB0), (0x0201, 0x10)])) =
    some ([0x00, 0x00, 0x00, 0xFF, 0x25], 0x0212,
      [r 0x0200 0xB0, r 0x0201 0x10, r 0x0202 0x00]) := by decide

theorem test_bcs_2 : seen (step (start 0x00 0x00 0x00 0xFF 0x24 0x0200
    [(0x0200, 0xB0), (0x0201, 0x10)])) =
    some ([0x00, 0x00, 0x00, 0xFF, 0x24], 0x0202,
      [r 0x0200 0xB0, r 0x0201 0x10]) := by decide

theorem test_beq : seen (step (start 0x00 0x00 0x00 0xFF 0x26 0x0200
    [(0x0200, 0xF0), (0x0201, 0x10)])) =
    some ([0x00, 0x00, 0x00, 0xFF, 0x26], 0x0212,
      [r 0x0200 0xF0, r 0x0201 0x10, r 0x0202 0x00]) := by decide

theorem test_beq_2 : seen (step (start 0x00 0x00 0x00 0xFF 0x24 0x0200
    [(0x0200, 0xF0), (0x0201, 0x10)])) =
    some ([0x00, 0x00, 0x00, 0xFF, 0x24], 0x0202,
      [r 0x0200 0xF0, r 0x0201 0x10]) := by decide

theorem test_clc : seen (step (start 0x00 0x00 0x00 0xFF 0xE7 0x0200
    [(0x0200, 0x18)])) =
    some ([0x00, 0x00, 0x00, 0xFF, 0xE6], 0x0201,
      [r 0x0200 0x18]) := by decide

theorem test_clc_2 : seen (step (withDummies (start 0x00 0x00 0x00 0xFF 0xE7 0x0200
    [(0x0200, 0x18)]))) =
    some ([0x00, 0x00, 0x00, 0xFF, 0xE6], 0x0201,
      [r 0x0200 0x18, r 0x0201 0x00]) := by decide

theorem test_sec : seen (step (start 0x00 0x00 0x00 0xFF 0x24 0x0200
    [(0x0200, 0x38)])) =
    some ([0x00, 0x00, 0x00, 0xFF, 0x25], 0x0201,
      [r 0x0200 0x38]) := by decide

theorem test_sec_2 : seen (step (withDummies (start 0x00 0x00 0x00 0xFF 0x24 0x0200
    [(0x0200, 0x38)]))) =
    some ([0x00, 0x00, 0x00, 0xFF, 0x25], 0x0201,
      [r 0x0200 0x38, r 0x0201 0x00]) := by decide

theorem test_cli : seen (step (start 0x00 0x00 0x00 0xFF 0x24 0x0200
    [(0x0200, 0x58)])) =
    some ([0x00, 0x00, 0x00, 0xFF, 0x20], 0x0201,
      [r 0x0200 0x58]) := by decide

theorem test_cli_2 : seen (step (withDummies (start 0x00 0x00 0x00 0xFF 0x24 0x0200
    [(0x0200, 0x58)]))) =
    some ([0x00, 0x00, 0x00, 0xFF, 0x20], 0x0201,
      [r 0x0200 0x58, r 0x0201 0x00]) := by decide

theorem test_sei : seen (step (start 0x00 0x00 0x00 0xFF 0x20 0x0200
    [(0x0200, 0x78)])) =
    some ([0x00, 0x00, 0x00, 0xFF, 0x24], 0x0201,
      [r 0x0200 0x78]) := by decide

theorem test_sei_2 : seen (step (withDummies (start 0x00 0x00 0x00 0xFF 0x20 0x0200
    [(0x0200, 0x78)]))) =
    some ([0x00, 0x00, 0x00, 0xFF, 0x24], 0x0201,
      [r 0x0200 0x78, r 0x0201 0x00]) := by decide

theorem test_clv : seen (step (start 0x00 0x00 0x00 0xFF 0x64 0x0200
    [(0x0200, 0xB8)])) =
    some ([0x00, 0x00, 0x00, 0xFF, 0x24], 0x0201,
      [r 0x0200 0xB8]) := by decide

theorem test_clv_2 : seen (step (withDummies (start 0x00 0x00 0x00 0xFF 0x64 0x0200
    [(0x0200, 0xB8)]))) =
    some ([0x00, 0x00, 0x00, 0xFF, 0x24], 0x0201,
      [r 0x0200 0xB8, r 0x0201 0x00]) := by decide

theorem test_cld : seen (step (start 0x00 0x00 0x00 0xFF 0x2C 0x0200
    [(0x0200, 0xD8)])) =
    some ([0x00, 0x00, 0x00, 0xFF, 0x24], 0x0201,
      [r 0x0200 0xD8]) := by decide

theorem test_cld_2 : seen (step (withDummies (start 0x00 0x00 0x00 0xFF 0x2C 0x0200
    [(0x0200, 0xD8)]))) =
    some ([0x00, 0x00, 0x00, 0xFF, 0x24], 0x0201,
      [r 0x0200 0xD8, r 0x0201 0x00]) := by decide

theorem test_sed : seen (step (start 0x00 0x00 0x00 0xFF 0x24 0x0200
    [(0x0200, 0xF8)])) =
    some ([0x00, 0x00, 0x00, 0xFF, 0x2C], 0x0201,
      [r 0x0200 0xF8]) := by decide

theorem test_sed_2 : seen (step (withDummies (start 0x00 0x00 0x00 0xFF 0x24 0x0200
    [(0x0200, 0xF8)]))) =
    some ([0x00, 0x00, 0x00, 0xFF, 0x2C], 0x0201,
      [r 0x0200 0xF8, r 0x0201 0x00]) := by decide

theorem test_nop : seen (step (start 0x00 0x00 0x00 0xFF 0xFF 0x0200
    [(0x0200, 0xEA)])) =
    some ([0x00, 0x00, 0x00, 0xFF, 0xFF], 0x0201,
      [r 0x0200 0xEA]) := by decide

theorem test_nop_2 : seen (step (withDummies (start 0x00 0x00 0x00 0xFF 0xFF 0x0200
    [(0x0200, 0xEA)]))) =
    some ([0x00, 0x00, 0x00, 0xFF, 0xFF], 0x0201,
      [r 0x0200 0xEA, r 0x0201 0x00]) := by decide

theorem test_tax : (seen (step (withDummies (start 0x80 0x00 0x00 0xFF 0x24 0x0200
    [(0x0200, 0xAA)])))).map (fun t => t.2.2) = some
    [r 0x0200 0xAA, r 0x0201 0x00] := by decide

/-! By hand from the rules R291, R297 and R300. -/

theorem test_ldxImm : regs (step (start 0x00 0x00 0x00 0xFF 0x24 0x0200 [(0x0200, 0xA2), (0x0201, 0xFF)])) =
    some ([0x00, 0xFF, 0x00, 0xFF, 0xA4], 0x0202) := by decide

theorem test_tay : regs (step (start 0x80 0x01 0x00 0xFF 0x24 0x0200 [(0x0200, 0xA8)])) =
    some ([0x80, 0x01, 0x80, 0xFF, 0xA4], 0x0201) := by decide

theorem test_tya : regs (step (start 0x80 0x01 0x00 0xFF 0xA4 0x0200 [(0x0200, 0x98)])) =
    some ([0x00, 0x01, 0x00, 0xFF, 0x26], 0x0201) := by decide

/-! ### Dummy reads of `EXTRA_DUMMY_READS` (95_test_vectors.md L2.9) -/

theorem test_dummies_pla : (seen (step (withDummies (start 0x00 0x00 0x00 0xFE 0x24 0x0200 [(0x0200, 0x68)])))).map
    (fun t => t.2.2) = some [r 0x0200 0x68, r 0x0201 0x00, r 0x01FE 0x00, r 0x01FF 0x00] := by decide

theorem test_dummies_jsr : (seen (step (withDummies (start 0x00 0x00 0x00 0xFF 0x24 0x0200
    [(0x0200, 0x20), (0x0202, 0x30)])))).map (fun t => t.2.2) =
    some [r 0x0200 0x20, r 0x0201 0x00, r 0x01FF 0x00, w 0x01FF 0x02, w 0x01FE 0x02, r 0x0202 0x30] := by decide

theorem test_dummies_rts : (seen (step (withDummies (start 0x00 0x00 0x00 0xFD 0x24 0x0200
    [(0x01FE, 0x02), (0x01FF, 0x02), (0x0200, 0x60)])))).map (fun t => t.2.2) =
    some [r 0x0200 0x60, r 0x0201 0x00, r 0x01FD 0x00, r 0x01FE 0x02, r 0x01FF 0x02, r 0x0202 0x00] := by decide

/-! ### Interrupts, halt and unmapped opcodes (95_test_vectors.md L2.6, L2.8) -/

/-- The memory of L2.6: `NOP`s at 0x0200 and at both handlers. -/
def pollStart (p : Byte) (nmi irq : Bool) : State :=
  { start 0x00 0x00 0x00 0xFF p 0x0200
      [(0x0200, 0xEA), (0x8000, 0xEA), (0x8001, 0xEA), (0x9000, 0xEA), (0xFFFB, 0x80), (0xFFFF, 0x90)] with
    nmi := nmi, irq := irq }

/-- The lines NMI and IRQ after an outcome. -/
def lines (o : Host.Outcome State Fault Refusal) : Option (Bool × Bool) :=
  match o with
  | .next t => some (t.nmi, t.irq)
  | .fault _ => none
  | .refused _ => none

theorem test_nmi : seen (step (pollStart 0x24 true false)) = some ([0x00, 0x00, 0x00, 0xFC, 0x24], 0x8001,
    [w 0x01FF 0x02, w 0x01FE 0x00, w 0x01FD 0x24, r 0xFFFA 0x00, r 0xFFFB 0x80, r 0x8000 0xEA]) := by decide

theorem test_nmi_clears_b_in_the_pushed_byte : seen (step (pollStart 0xFB true false)) =
    some ([0x00, 0x00, 0x00, 0xFC, 0xFF], 0x8001,
      [w 0x01FF 0x02, w 0x01FE 0x00, w 0x01FD 0xEB, r 0xFFFA 0x00, r 0xFFFB 0x80, r 0x8000 0xEA]) := by decide

theorem test_nmi_dummies : (seen (step (withDummies (pollStart 0x24 true false)))).map (fun t => t.2.2) =
    some [r 0x0200 0xEA, r 0x0200 0xEA, w 0x01FF 0x02, w 0x01FE 0x00, w 0x01FD 0x24, r 0xFFFA 0x00, r 0xFFFB 0x80,
      r 0x8000 0xEA, r 0x8001 0xEA] := by decide

theorem test_irq : seen (step (pollStart 0x20 false true)) = some ([0x00, 0x00, 0x00, 0xFC, 0x24], 0x9001,
    [w 0x01FF 0x02, w 0x01FE 0x00, w 0x01FD 0x20, r 0xFFFE 0x00, r 0xFFFF 0x90, r 0x9000 0xEA]) := by decide

theorem test_irq_masked : seen (step (pollStart 0x24 false true)) =
    some ([0x00, 0x00, 0x00, 0xFF, 0x24], 0x0201, [r 0x0200 0xEA]) := by decide

theorem test_lines_after : lines (step (pollStart 0x20 true true)) = some (false, true) ∧
    lines (step (pollStart 0x20 false true)) = some (false, false) ∧
    lines (step (pollStart 0x24 false true)) = some (false, true) := by decide

theorem test_halt : seen (step { pollStart 0x20 true true with haltReq := true }) =
    some ([0x00, 0x00, 0x00, 0xFF, 0x20], 0x0200, []) ∧
    lines (step { pollStart 0x20 true true with haltReq := true }) = some (true, true) := by decide

theorem test_unmapped : seen (step (start 0x00 0x00 0x00 0xFF 0x24 0x0200 [(0x0200, 0xFF)])) =
    some ([0x00, 0x00, 0x00, 0xFF, 0x24], 0x0201, [r 0x0200 0xFF, .report 0xFF 0x0200]) := by decide

/-! ### Reset (95_test_vectors.md L2.7) -/

/-- The start of L2.7: outside `run()`, the RESET vector at 0xC000. -/
def resetStart (mode : ResetStackMode) (extra : Bool) : State :=
  { start 0x00 0x00 0x00 0xFF 0xE3 0x1234 [(0xFFFD, 0xC0)] with
    running := false, config := { extraDummyReads := extra, resetStackMode := mode } }

theorem test_reset_push : seen (hostCall .reset (resetStart .push false)) =
    some ([0x00, 0x00, 0x00, 0xFC, 0xE7], 0xC000,
      [w 0x01FF 0x12, w 0x01FE 0x34, w 0x01FD 0xE3, r 0xFFFC 0x00, r 0xFFFD 0xC0]) := by decide

theorem test_reset_push_dummies : seen (hostCall .reset (resetStart .push true)) =
    some ([0x00, 0x00, 0x00, 0xFC, 0xE7], 0xC000,
      [r 0x1234 0x00, r 0x1234 0x00, w 0x01FF 0x12, w 0x01FE 0x34, w 0x01FD 0xE3, r 0xFFFC 0x00, r 0xFFFD 0xC0]) := by
  decide

theorem test_reset_noWrite : seen (hostCall .reset (resetStart .noWrite false)) =
    some ([0x00, 0x00, 0x00, 0xFC, 0xE7], 0xC000, [r 0xFFFC 0x00, r 0xFFFD 0xC0]) := by decide

theorem test_reset_noWrite_dummies : seen (hostCall .reset (resetStart .noWrite true)) =
    some ([0x00, 0x00, 0x00, 0xFC, 0xE7], 0xC000,
      [r 0x1234 0x00, r 0x1234 0x00, r 0x01FF 0x00, r 0x01FE 0x00, r 0x01FD 0x00, r 0xFFFC 0x00, r 0xFFFD 0xC0]) := by
  decide

/-! ### The interface -/

theorem test_withFetchWord : seen (step (State.reset.withFetchWord 16 0x80A9)) =
    some ([0x80, 0x00, 0x00, 0xFC, 0xB4], 0x0002,
      State.reset.log.reverse ++ [r 0x0000 0xA9, r 0x0001 0x80]) := by decide

theorem test_core_step : Sys2Proof.core.step State.powerOn = .next State.powerOn := by rfl

/-! ### Witnesses: a concrete state for the hypotheses of every statement that has some -/

/-- Whether an outcome is a next state. -/
def goesOn (o : Host.Outcome State Fault Refusal) : Bool :=
  match o with
  | .next _ => true
  | .fault _ => false
  | .refused _ => false

/-- The state after an outcome, or the one before it. -/
def after (o : Host.Outcome State Fault Refusal) (s : State) : State :=
  match o with
  | .next t => t
  | .fault _ => s
  | .refused _ => s

/-- A state in which page crossings, wraps and stores meet: the operand is 0x00FF, X and Y are 0xFF, S is 0x01. -/
def edge : State := start 0xFF 0xFF 0xFF 0x01 0x24 0xFFFF [(0xFFFF, 0xFF), (0x0000, 0x00), (0x00FF, 0x80), (0x0100, 0x7F)]

theorem edge_goes_on : ∀ op : Byte, goesOn (exec (decodeOpcode op) edge) = true := by decide

/-- What the frame statements assume of an instruction that goes on. -/
theorem edge_exec (op : Byte) : exec (decodeOpcode op) edge = .next (after (exec (decodeOpcode op) edge) edge) := by
  have h := edge_goes_on op
  revert h
  cases exec (decodeOpcode op) edge <;> simp [goesOn, after]

theorem witness_ResetRunsItsSequenceInBothModes :
    ((resetStart .push true).running = false ∧ (resetStart .push true).config.resetStackMode = .push) ∧
    ((resetStart .noWrite true).running = false ∧ (resetStart .noWrite true).config.resetStackMode = .noWrite) := by
  decide

theorem witness_HostCallsHaveTheirEffects : State.powerOn.running = false ∧ State.reset.running = true := by decide

/-- Quiet with IRQ pending and masked, and with no line, at the last address. -/
theorem witness_StepRunsTheDecodedInstruction :
    (Quiet { edge with irq := true } ∧ decodeOpcode ({ edge with irq := true }.answer 0 0xFFFF) = .unmapped 0xFF) ∧
    (Quiet State.reset ∧ decodeOpcode (State.reset.answer 0 0x0000) = .brk) ∧
    (Quiet { start 0x00 0x00 0x00 0xFF 0x20 0x0200 [] with hostLoads := [some 0xEA] } ∧
      decodeOpcode ({ start 0x00 0x00 0x00 0xFF 0x20 0x0200 [] with hostLoads := [some 0xEA] }.answer 0 0x0200) =
        .nop) := by
  unfold Quiet; decide

theorem witness_StepTakesNmiFirst : (pollStart 0x24 true true).running = true ∧
    (pollStart 0x24 true true).haltReq = false ∧ (pollStart 0x24 true true).nmi = true := by decide

theorem witness_StepTakesIrqWhenNotMasked : (pollStart 0x20 false true).running = true ∧
    (pollStart 0x20 false true).haltReq = false ∧ (pollStart 0x20 false true).nmi = false ∧
    getFlag (pollStart 0x20 false true).p .I = false ∧ (pollStart 0x20 false true).irq = true := by decide

theorem witness_HaltStopsBeforeThePoll : { pollStart 0x20 true true with haltReq := true }.running = true ∧
    { pollStart 0x20 true true with haltReq := true }.haltReq = true := by decide

theorem edge_inv : Inv edge :=
  ⟨by decide, by decide, fun _ _ h => by simp [edge, start, State.powerOn] at h⟩

/-- The step reports the unmapped opcode 0xFF at 0xFFFF. -/
theorem witness_EveryStepKeepsTheInvariant :
    Inv edge ∧ step edge = .next (after (step edge) edge) ∧ Event.report 0xFF 0xFFFF ∈ (after (step edge) edge).log :=
  ⟨edge_inv, rfl, by decide⟩

/-- A signal, a halt request and the iteration that stops, from reset. -/
theorem witness_EveryRunKeepsTheInvariant :
    Inv edge ∧ runActions [.call (.signal .NMI true), .call .halt, .iterate, .call .reset, .call .run] edge =
      .next (after (runActions [.call (.signal .NMI true), .call .halt, .iterate, .call .reset, .call .run] edge) edge) :=
  ⟨edge_inv, rfl⟩

/-- JSR at 0x01FE: its pushes overwrite its own bytes, and it reads its high byte after them (R459). -/
def selfWriting : State := start 0x00 0x00 0x00 0xFF 0x24 0x01FD [(0x01FD, 0x20), (0x01FE, 0x34), (0x01FF, 0x12)]

theorem witness_MemoryIsTheReplayOfTheTrace :
    step selfWriting = .next (after (step selfWriting) selfWriting) ∧
      (after (step selfWriting) selfWriting).log ≠ [] ∧
      (after (step selfWriting) selfWriting).mem ≠ selfWriting.mem :=
  ⟨rfl, by decide, by decide⟩

theorem witness_FlatRamReadsSeeTheLastStore : selfWriting.hostLoads = [] ∧
    step selfWriting = .next (after (step selfWriting) selfWriting) ∧
    (after (step selfWriting) selfWriting).pc = 0x0134 := ⟨rfl, rfl, by decide⟩

theorem witness_DummyReadParameterChangesOnlyTheTrace :
    SameButDummyReads edge (withDummies edge) ∧ edge.config ≠ (withDummies edge).config := by
  unfold SameButDummyReads; decide

theorem witness_BreakBitOfTheRegisterIsUnobservable :
    SameButB edge { edge with p := 0x34 } ∧ edge.p ≠ 0x34 :=
  ⟨⟨rfl, fun f h => by cases f <;> first | rfl | exact absurd rfl h⟩, by decide⟩

/-- A page cross, a taken branch with one and a branch not taken. -/
theorem witness_AccessCountsAreThoseOfTheTable :
    (exec .ldaAbx edge = .next (after (exec .ldaAbx edge) edge) ∧ edge.pageCross .abx = true) ∧
    (exec .bne edge = .next (after (exec .bne edge) edge) ∧ branchCondition .bne edge.p = some true ∧
      edge.takenReads.length = 3) ∧
    (exec .beq edge = .next (after (exec .beq edge) edge) ∧ branchCondition .beq edge.p = some false) := by
  exact ⟨⟨rfl, by decide⟩, ⟨rfl, by decide, by decide⟩, rfl, by decide⟩

/-- `LDA abs` over the end of the address space. -/
theorem witness_PcAdvancesByTheInstructionLength :
    Instr.ldaAbs ∉ controlInstrs ∧ exec .ldaAbs edge = .next (after (exec .ldaAbs edge) edge) ∧
      (after (exec .ldaAbs edge) edge).pc = 0x0001 := ⟨by decide, rfl, by decide⟩

theorem witness_OnlyTheNamedFlagsChange :
    exec .incZp edge = .next (after (exec .incZp edge) edge) ∧ Flag.C ∉ writtenFlags .incZp := ⟨rfl, by decide⟩

theorem witness_OnlyTheNamedRegistersChange :
    exec .staZp edge = .next (after (exec .staZp edge) edge) ∧
      .staZp ∉ writesA ∧ .staZp ∉ writesX ∧ .staZp ∉ writesY ∧ .staZp ∉ writesS := ⟨rfl, by decide⟩

theorem witness_InstructionsLeaveLinesAndParametersAlone :
    exec .brk edge = .next (after (exec .brk edge) edge) := rfl

theorem witness_NonStoringInstructionsLeaveMemoryAlone :
    Instr.cmpAbx ∉ storeInstrs ∧ Instr.cmpAbx ∉ modifyInstrs ∧ Instr.cmpAbx ∉ pushInstrs ∧
      exec .cmpAbx edge = .next (after (exec .cmpAbx edge) edge) := ⟨by decide, by decide, by decide, rfl⟩

/-- A store and a modify that wrap in the zero page, each with an address it leaves alone next to the one it writes. -/
theorem witness_StoresChangeOnlyTheirEffectiveAddress :
    (exec .staZpx edge = .next (after (exec .staZpx edge) edge) ∧ .staZpx ∈ storeInstrs ∧
      edge.ea .write Instr.staZpx.mode = 0x00FE ∧ (0x01FE : Addr) ≠ edge.ea .write Instr.staZpx.mode) ∧
    (exec .incZpx edge = .next (after (exec .incZpx edge) edge) ∧ .incZpx ∈ modifyInstrs ∧
      edge.ea .modify Instr.incZpx.mode = 0x00FE ∧ (0x01FE : Addr) ≠ edge.ea .modify Instr.incZpx.mode) :=
  ⟨⟨rfl, by decide, by decide, by decide⟩, rfl, by decide, by decide, by decide⟩

/-- With S = 0x01 a BRK writes 0x0101, 0x0100 and 0x01FF. -/
theorem witness_PushesChangeOnlyTheirStackBytes :
    (exec .pha edge = .next (after (exec .pha edge) edge) ∧ (0x0100 : Addr) ≠ stackAddr edge.sp) ∧
    (exec .php edge = .next (after (exec .php edge) edge) ∧ (0x0100 : Addr) ≠ stackAddr edge.sp) ∧
    (exec .jsr edge = .next (after (exec .jsr edge) edge) ∧ (0x01FF : Addr) ≠ stackAddr edge.sp ∧
      (0x01FF : Addr) ≠ stackAddr (edge.sp - 1)) ∧
    (exec .brk edge = .next (after (exec .brk edge) edge) ∧ stackAddr (edge.sp - 2) = 0x01FF ∧
      (0x0200 : Addr) ≠ stackAddr edge.sp ∧ (0x0200 : Addr) ≠ stackAddr (edge.sp - 1) ∧
      (0x0200 : Addr) ≠ stackAddr (edge.sp - 2)) :=
  ⟨⟨rfl, by decide⟩, ⟨rfl, by decide⟩, ⟨rfl, by decide, by decide⟩, rfl, by decide⟩

/-- Both branches of the decimal test; for SBC both borrows too. -/
theorem witness_AdcAddsWithCarry : getFlag edge.p .D = false ∧ getFlag { edge with p := 0x2C }.p .D = true := by
  decide

theorem witness_SbcSubtractsWithBorrow : getFlag edge.p .D = false ∧ getFlag edge.p .C = false ∧
    getFlag { edge with p := 0x25 }.p .C = true ∧ getFlag { edge with p := 0x2C }.p .D = true := by decide

/-- A taken and an untaken branch, over the end of the address space. -/
theorem witness_BranchesGoWhereTheirFlagSays : getFlag edge.p .Z = false ∧ edge.branchTarget = 0xFFFF ∧
    getFlag { edge with p := 0x26 }.p .Z = true := by decide

theorem witness_UnmappedOpcodesAreReportedAndSkipped :
    ((0xFF : Byte) ∈ unmappedOpcodes ∧ Quiet edge ∧ edge.answer 0 edge.pc = 0xFF) ∧
    ((0x02 : Byte) ∈ unmappedOpcodes ∧ Quiet (start 0x00 0x00 0x00 0xFF 0x24 0x0200 [(0x0200, 0x02)]) ∧
      (start 0x00 0x00 0x00 0xFF 0x24 0x0200 [(0x0200, 0x02)]).answer 0 0x0200 = 0x02) := by
  unfold Quiet; decide

theorem witness_AdcOverflowIsSignedOverflow : getFlag 0x25 .D = false ∧ getFlag 0x24 .D = false := by decide

/-- No operand, two operands and an unmapped opcode for the first clause; a missing byte for the second. -/
theorem witness_DecodeOfEncodeIsTheInstruction :
    (Instr.tax.wellFormed = true ∧ ([] : List Byte).length = Instr.tax.length - 1) ∧
    (Instr.ldaAbs.wellFormed = true ∧ ([0xFF, 0xFF] : List Byte).length = Instr.ldaAbs.length - 1) ∧
    ((Instr.unmapped 0xFF).wellFormed = true ∧ ([] : List Byte).length = (Instr.unmapped 0xFF).length - 1) ∧
    ([0xFF] : List Byte).length < Instr.ldaAbs.length - 1 := by decide

/-- 256 bytes, and the first and the last of them. -/
theorem witness_StackWrapsInsidePageOne :
    ({ edge with sp := 0xFF }.mem.wf = true ∧ { edge with sp := 0xFF }.sp = 0xFF ∧
      (List.replicate 256 (0x42 : Byte)).length = 256 ∧ (0x01FF : Addr) - BitVec.ofNat 16 0 = 0x01FF ∧
      (0x01FF : Addr) - BitVec.ofNat 16 255 = 0x0100) ∧
    { edge with sp := 0x00 }.sp = 0x00 :=
  ⟨⟨by decide, rfl, List.length_replicate, by decide, by decide⟩, rfl⟩

/-- At S = 0xFF the byte is pulled from 0x0100. -/
theorem witness_PlpThenPhpPushesTheByteWithBAndTSet :
    { edge with sp := 0xFF }.hostLoads = [] ∧ { edge with sp := 0xFF }.mem.wf = true ∧
      stackAddr ({ edge with sp := 0xFF }.sp + 1) = 0x0100 := by decide

/-- The state after the JSR, at a RTS further on. -/
theorem witness_RtsReturnsFromJsr :
    edge.mem.wf = true ∧ exec .jsr edge = .next (after (exec .jsr edge) edge) ∧
      { after (exec .jsr edge) edge with pc := 0x3001 }.hostLoads = [] ∧
      { after (exec .jsr edge) edge with pc := 0x3001 }.sp = (after (exec .jsr edge) edge).sp ∧
      { after (exec .jsr edge) edge with pc := 0x3001 }.mem.read (stackAddr edge.sp) = 0x00 ∧
      { after (exec .jsr edge) edge with pc := 0x3001 }.mem.read (stackAddr (edge.sp - 1)) = 0x00 :=
  ⟨by decide, rfl, by decide, rfl, by decide, by decide⟩

/-- The state after the BRK, at a RTI further on. -/
theorem witness_RtiReturnsFromBrk :
    edge.mem.wf = true ∧ exec .brk edge = .next (after (exec .brk edge) edge) ∧
      { after (exec .brk edge) edge with pc := 0x9001 }.hostLoads = [] ∧
      { after (exec .brk edge) edge with pc := 0x9001 }.sp = (after (exec .brk edge) edge).sp ∧
      ∀ k < 3, { after (exec .brk edge) edge with pc := 0x9001 }.mem.read (stackAddr (edge.sp - BitVec.ofNat 8 k)) =
        (after (exec .brk edge) edge).mem.read (stackAddr (edge.sp - BitVec.ofNat 8 k)) :=
  ⟨by decide, rfl, by decide, rfl, fun _ _ => rfl⟩

end Sys2Proof.Tests
end

section
/-! SUPPORT. Relations that every run keeps. A relation between two states (an invariant is one, on a state and itself)
that the primitive operations of the core keep is kept by every addressing mode, instruction, iteration, host call and
run. The split over the instructions is made once, here; a statement about runs gives its relation and the fields of
`PrimitivesKeep`. -/

namespace Sys2Proof.Machine

/-- What the core reads of a state outside memory and the host's answers is the same in both states: the registers, the
flags it branches on, the bytes of P it pushes, the lines and `RESET_STACK_MODE`. B is left out: no branch is on it, and
a push replaces it (10_state.md R40). -/
structure SameInputs (s t : State) : Prop where
  a : t.a = s.a
  x : t.x = s.x
  y : t.y = s.y
  sp : t.sp = s.sp
  pc : t.pc = s.pc
  flag : ∀ f, f ≠ .B → getFlag t.p f = getFlag s.p f
  pushedP : ∀ path, pushedP path t.p = pushedP path s.p
  nmi : t.nmi = s.nmi
  irq : t.irq = s.irq
  haltReq : t.haltReq = s.haltReq
  running : t.running = s.running
  resetStackMode : t.config.resetStackMode = s.config.resetStackMode

/-- Related states give the core the same inputs, and each primitive operation keeps them related. -/
structure PrimitivesKeep (R : State → State → Prop) : Prop where
  same : ∀ {s t}, R s t → SameInputs s t
  loadByte_eq : ∀ {s t}, R s t → ∀ a, t.loadByte a = s.loadByte a
  afterBusRead : ∀ {s t}, R s t → ∀ a, R (busRead a s).2 (busRead a t).2
  afterBusWrite : ∀ {s t}, R s t → ∀ a v, R (busWrite a v s) (busWrite a v t)
  afterExtraRead : ∀ {s t}, R s t → ∀ a, R (extraRead a s) (extraRead a t)
  afterReport : ∀ {s t}, R s t → ∀ op ∈ unmappedOpcodes, ∀ a, R (report op a s) (report op a t)
  withReg : ∀ {s t}, R s t → ∀ r v, R (s.setReg r v) (t.setReg r v)
  withSp : ∀ {s t}, R s t → ∀ v, R { s with sp := v } { t with sp := v }
  withPc : ∀ {s t}, R s t → ∀ c, R { s with pc := c } { t with pc := c }
  result_eq : ∀ {s t}, R s t → ∀ (o : Operation) v slot,
    (o.apply v slot t.a t.p).1 = (o.apply v slot s.a s.p).1
  withResultP : ∀ {s t}, R s t → ∀ (o : Operation) v slot,
    R { s with p := (o.apply v slot s.a s.p).2 } { t with p := (o.apply v slot t.a t.p).2 }
  withFlag : ∀ {s t}, R s t → ∀ f b, R { s with p := setFlag s.p f b } { t with p := setFlag t.p f b }
  withPulledP : ∀ {s t}, R s t → ∀ v, R { s with p := pulledP v } { t with p := pulledP v }
  withNmi : ∀ {s t}, R s t → ∀ b, R { s with nmi := b } { t with nmi := b }
  withIrq : ∀ {s t}, R s t → ∀ b, R { s with irq := b } { t with irq := b }
  withHaltReq : ∀ {s t}, R s t → ∀ b, R { s with haltReq := b } { t with haltReq := b }
  withRunning : ∀ {s t}, R s t → ∀ b, R { s with running := b } { t with running := b }

/-- Two answers of an operation that gives a value and a state: one value, related states. -/
def Alike {α : Type} (R : State → State → Prop) (e e' : α × State) : Prop := e'.1 = e.1 ∧ R e.2 e'.2

/-- Two ends that are alike are two related next states or one refusal: there is no fault. -/
theorem EndAlike.cases {R : State → State → Prop} {o o' : Host.Outcome State Fault Refusal} (h : EndAlike R o o') :
    (∃ s t, o = .next s ∧ o' = .next t ∧ R s t) ∨ ∃ r, o = .refused r ∧ o' = .refused r := by
  match o, o', h with
  | .next s, .next t, h => exact .inl ⟨s, t, rfl, rfl, h⟩
  | .refused r, .refused _, h => exact .inr ⟨r, rfl, congrArg _ (Eq.symm h)⟩

/-- A procedure applied to alike effective addresses answers related states if it does at one address. -/
theorem Alike.lift {R : State → State → Prop} {f : Addr × State → State} {e e' : Addr × State}
    (hf : ∀ (a : Addr) {s t : State}, R s t → R (f (a, s)) (f (a, t))) (he : Alike R e e') : R (f e) (f e') := by
  obtain ⟨a, s⟩ := e
  obtain ⟨a', t⟩ := e'
  obtain ⟨rfl, hr⟩ := he
  exact hf a' hr

/-- Decoding gives well-formed instructions only (30_encoding.md R93, R95). -/
theorem decodeOpcode_wellFormed : ∀ op : Byte, (decodeOpcode op).wellFormed = true := by decide

section
variable {R : State → State → Prop} (h : PrimitivesKeep R) {s t : State}
include h

/-! ### Registers, stack and rows of loads -/

theorem setPc_keeps (hr : R s t) {c c' : Addr} (hc : c' = c) : R { s with pc := c } { t with pc := c' } :=
  hc ▸ h.withPc hr c

theorem setSp_keeps (hr : R s t) {v v' : Byte} (hv : v' = v) : R { s with sp := v } { t with sp := v' } :=
  hv ▸ h.withSp hr v

theorem busRead_keeps (hr : R s t) (a : Addr) : Alike R (busRead a s) (busRead a t) :=
  ⟨h.loadByte_eq hr a, h.afterBusRead hr a⟩

theorem fetch_keeps (hr : R s t) : Alike R (fetch s) (fetch t) := by
  have hpc := (h.same hr).pc
  simp only [fetch, hpc]
  exact ⟨h.loadByte_eq hr s.pc, h.withPc (h.afterBusRead hr s.pc) _⟩

theorem push_keeps (hr : R s t) {v v' : Byte} (hv : v' = v) : R (push v s) (push v' t) := by
  subst hv
  simp only [push, (h.same hr).sp]
  exact h.withSp (h.afterBusWrite hr _ _) _

theorem pull_keeps (hr : R s t) : Alike R (pull s) (pull t) := by
  simp only [pull, (h.same hr).sp]
  exact busRead_keeps h (h.withSp hr _) _

theorem implied_keeps (hr : R s t) : R (implied s) (implied t) := by
  simp only [implied, (h.same hr).pc]
  exact h.afterExtraRead hr s.pc

theorem pullDummyReads_keeps (hr : R s t) : R (pullDummyReads s) (pullDummyReads t) := by
  simp only [pullDummyReads, (h.same hr).pc, (h.same hr).sp]
  exact h.afterExtraRead (h.afterExtraRead hr _) _

theorem afterReads_keeps (hr : R s t) (as : List Addr) (c : Addr) : R (s.afterReads as c) (t.afterReads as c) := by
  induction as using List.reverseRecOn with
  | nil => exact h.withPc hr c
  | append_singleton as a ih =>
    have hread := h.afterBusRead ih a
    rwa [busRead_afterReads, busRead_afterReads] at hread

theorem answer_keeps (hr : R s t) (k : Nat) (a : Addr) : t.answer k a = s.answer k a := by
  simpa using h.loadByte_eq (afterReads_keeps h hr (List.replicate k a) a) a

/-! ### Addressing modes -/

theorem operandAccess_keeps (hr : R s t) (kind : AccessKind) (m : Mode) :
    operandAccess kind m t = operandAccess kind m s := by
  obtain ⟨-, hx, hy, -, hpc, -⟩ := h.same hr
  cases m <;>
    simp only [operandAccess, State.absOperand, State.izyBase, answer_keeps h hr, hx, hy, hpc]

theorem ea_keeps (hr : R s t) (kind : AccessKind) (m : Mode) :
    Alike R (s.ea kind m, s.atAccess kind m) (t.ea kind m, t.atAccess kind m) := by
  simp only [State.ea, State.atAccess, State.pcAfter, operandAccess_keeps h hr, (h.same hr).pc]
  exact ⟨rfl, afterReads_keeps h hr _ _⟩

theorem eaZp_keeps (hr : R s t) : Alike R (eaZp s) (eaZp t) := by
  simpa only [eaZp_eq .read] using ea_keeps h hr .read .zp

theorem eaZpIndexed_X_keeps (hr : R s t) : Alike R (eaZpIndexed .X s) (eaZpIndexed .X t) := by
  simpa only [eaZpIndexed_X_eq .read] using ea_keeps h hr .read .zpx

theorem eaZpIndexed_Y_keeps (hr : R s t) : Alike R (eaZpIndexed .Y s) (eaZpIndexed .Y t) := by
  simpa only [eaZpIndexed_Y_eq .read] using ea_keeps h hr .read .zpy

theorem eaAbs_keeps (hr : R s t) : Alike R (eaAbs s) (eaAbs t) := by
  simpa only [eaAbs_eq .read] using ea_keeps h hr .read .abs

theorem eaAbsIndexed_X_keeps (hr : R s t) (kind : AccessKind) :
    Alike R (eaAbsIndexed .X kind s) (eaAbsIndexed .X kind t) := by
  simpa only [eaAbsIndexed_X_eq] using ea_keeps h hr kind .abx

theorem eaAbsIndexed_Y_keeps (hr : R s t) (kind : AccessKind) :
    Alike R (eaAbsIndexed .Y kind s) (eaAbsIndexed .Y kind t) := by
  simpa only [eaAbsIndexed_Y_eq] using ea_keeps h hr kind .aby

theorem eaIzx_keeps (hr : R s t) : Alike R (eaIzx s) (eaIzx t) := by
  simpa only [eaIzx_eq .read] using ea_keeps h hr .read .izx

theorem eaIzy_keeps (hr : R s t) (kind : AccessKind) : Alike R (eaIzy kind s) (eaIzy kind t) := by
  simpa only [eaIzy_eq] using ea_keeps h hr kind .izy

theorem eaInd_keeps (hr : R s t) : Alike R (eaInd s) (eaInd t) := by
  simp only [eaInd_eq, State.absOperand, answer_keeps h hr, (h.same hr).pc]
  exact ⟨rfl, afterReads_keeps h hr _ _⟩

/-! ### Read, write and modify procedures -/

theorem applyOp_keeps (hr : R s t) {v v' : Byte} (hv : v' = v) (o : Operation) (slot : RegName) :
    R (applyOp o v slot s) (applyOp o v' slot t) := by
  subst hv
  have hs := h.same hr
  have hslot : t.getReg slot = s.getReg slot := by
    cases slot
    · exact hs.a
    · exact hs.x
    · exact hs.y
  have hreg := h.withReg (h.withResultP hr o v' (s.getReg slot)) slot (o.apply v' (s.getReg slot) s.a s.p).1
  simp only [applyOp, hslot, h.result_eq hr]
  cases slot <;> exact hreg

theorem immRead_keeps (hr : R s t) (o : Operation) (slot : RegName) : R (immRead o slot s) (immRead o slot t) :=
  applyOp_keeps h (fetch_keeps h hr).2 (fetch_keeps h hr).1 o slot

theorem readAt_keeps {e e' : Addr × State} (he : Alike R e e') (o : Operation) (slot : RegName) :
    R (readAt o slot e) (readAt o slot e') :=
  he.lift fun a _ _ hr => applyOp_keeps h (h.afterBusRead hr a) (h.loadByte_eq hr a) o slot

theorem writeAt_keeps {e e' : Addr × State} (he : Alike R e e') (r : RegName) : R (writeAt r e) (writeAt r e') := by
  refine he.lift fun a s t hr => ?_
  have hs := h.same hr
  cases r
  · simpa only [writeAt, getReg_A, hs.a] using h.afterBusWrite hr a s.a
  · simpa only [writeAt, getReg_X, hs.x] using h.afterBusWrite hr a s.x
  · simpa only [writeAt, getReg_Y, hs.y] using h.afterBusWrite hr a s.y

theorem modifyAt_keeps {e e' : Addr × State} (he : Alike R e e') (o : Operation) :
    R (modifyAt o e) (modifyAt o e') := by
  refine he.lift fun a s t hr => ?_
  have hw := h.afterBusWrite (h.afterBusRead hr a) a (s.loadByte a)
  simp only [modifyAt, busRead_value, h.loadByte_eq hr, h.result_eq hw]
  exact h.afterBusWrite (h.withResultP hw o (s.loadByte a) (s.loadByte a)) a _

/-! ### Control transfers and interrupt entry -/

theorem branch_keeps (hr : R s t) {c c' : Bool} (hc : c' = c) : R (branch c s) (branch c' t) := by
  subst hc
  simp only [branch_eq, State.takenReads, State.branchTarget, answer_keeps h hr, (h.same hr).pc]
  split
  · exact afterReads_keeps h hr _ _
  · exact afterReads_keeps h hr _ _

theorem loadVector_keeps (hr : R s t) (vec : Addr) : R (loadVector vec s) (loadVector vec t) := by
  have hi := h.withFlag hr .I true
  simp only [loadVector_eq, vectored, answer_keeps h hi]
  exact afterReads_keeps h hi _ _

theorem entryDummyReads_keeps (hr : R s t) (path : EntryPath) :
    R (entryDummyReads path s) (entryDummyReads path t) := by
  cases path
  · simp only [entryDummyReads, (h.same hr).pc]
    exact h.afterExtraRead (h.afterExtraRead hr _) _
  · exact hr

theorem interruptEntry_keeps (hr : R s t) (vec : Addr) (path : EntryPath) :
    R (interruptEntry vec path s) (interruptEntry vec path t) := by
  have h0 := entryDummyReads_keeps h hr path
  have h1 := push_keeps h h0 (congrArg hiByte (h.same h0).pc)
  have h2 := push_keeps h h1 (congrArg loByte (h.same h1).pc)
  exact loadVector_keeps h (push_keeps h h2 ((h.same h2).pushedP path)) vec

theorem returnFromInterrupt_keeps (hr : R s t) : R (returnFromInterrupt s) (returnFromInterrupt t) := by
  obtain ⟨hp, h1⟩ := pull_keeps h hr
  obtain ⟨hlo, h2⟩ := pull_keeps h (h.withPulledP h1 (pull s).1)
  obtain ⟨hhi, h3⟩ := pull_keeps h h2
  simp only [returnFromInterrupt, hp]
  exact setPc_keeps h h3 (by rw [hhi, hlo])

theorem lowerStack_keeps (hr : R s t) : R (lowerStack s) (lowerStack t) := by
  simp only [lowerStack, (h.same hr).sp]
  exact h.withSp (h.afterExtraRead hr _) _

theorem resetSequence_keeps (hr : R s t) : R (resetSequence s) (resetSequence t) := by
  simp only [resetSequence, (h.same hr).resetStackMode]
  split
  · exact interruptEntry_keeps h hr _ _
  · exact loadVector_keeps h (lowerStack_keeps h (lowerStack_keeps h (lowerStack_keeps h
      (entryDummyReads_keeps h hr _)))) _

theorem pollInterrupts_keeps (hr : R s t) : R (pollInterrupts s) (pollInterrupts t) := by
  have hs := h.same hr
  simp only [pollInterrupts, hs.nmi, hs.irq, hs.flag .I (by decide)]
  split
  · exact h.withNmi (interruptEntry_keeps h hr _ _) _
  split
  · exact h.withIrq (interruptEntry_keeps h hr _ _) _
  · exact hr

/-! ### Instructions, iterations and runs -/

theorem execJsr_keeps (hr : R s t) : EndAlike R (execJsr s) (execJsr t) := by
  obtain ⟨hlo, h0⟩ := fetch_keeps h hr
  have h1 := h.afterExtraRead h0 (stackAddr s.sp)
  have h2 := push_keeps h h1 (congrArg hiByte (h.same h1).pc)
  have h3 := push_keeps h h2 (congrArg loByte (h.same h2).pc)
  obtain ⟨hhi, h4⟩ := fetch_keeps h h3
  simp only [execJsr, fetch_sp, (h.same hr).sp]
  exact setPc_keeps h h4 (by rw [hhi, hlo])

theorem execRts_keeps (hr : R s t) : EndAlike R (execRts s) (execRts t) := by
  obtain ⟨hlo, h1⟩ := pull_keeps h (pullDummyReads_keeps h hr)
  obtain ⟨hhi, h2⟩ := pull_keeps h h1
  have h3 := implied_keeps h (setPc_keeps h h2 (congrArg₂ cat hhi hlo))
  exact setPc_keeps h h3 (congrArg (· + 1) (h.same h3).pc)

/-- Every instruction, by its addressing mode and access kind. -/
theorem exec_keeps (hr : R s t) (i : Instr) (hi : i.wellFormed = true) : EndAlike R (exec i s) (exec i t) := by
  have hs := h.same hr
  have h1 := implied_keeps h hr
  have hs1 := h.same h1
  cases i with
  | adcImm | sbcImm | andImm | oraImm | eorImm | cmpImm | cpxImm | cpyImm | ldaImm | ldxImm | ldyImm =>
    exact immRead_keeps h hr _ _
  | adcZp | sbcZp | andZp | oraZp | eorZp | bitZp | cmpZp | cpxZp | cpyZp | ldaZp | ldxZp | ldyZp =>
    exact readAt_keeps h (eaZp_keeps h hr) _ _
  | adcZpx | sbcZpx | andZpx | oraZpx | eorZpx | cmpZpx | ldaZpx | ldyZpx =>
    exact readAt_keeps h (eaZpIndexed_X_keeps h hr) _ _
  | ldxZpy => exact readAt_keeps h (eaZpIndexed_Y_keeps h hr) _ _
  | adcAbs | sbcAbs | andAbs | oraAbs | eorAbs | bitAbs | cmpAbs | cpxAbs | cpyAbs | ldaAbs | ldxAbs | ldyAbs =>
    exact readAt_keeps h (eaAbs_keeps h hr) _ _
  | adcAbx | sbcAbx | andAbx | oraAbx | eorAbx | cmpAbx | ldaAbx | ldyAbx =>
    exact readAt_keeps h (eaAbsIndexed_X_keeps h hr _) _ _
  | adcAby | sbcAby | andAby | oraAby | eorAby | cmpAby | ldaAby | ldxAby =>
    exact readAt_keeps h (eaAbsIndexed_Y_keeps h hr _) _ _
  | adcIzx | sbcIzx | andIzx | oraIzx | eorIzx | cmpIzx | ldaIzx =>
    exact readAt_keeps h (eaIzx_keeps h hr) _ _
  | adcIzy | sbcIzy | andIzy | oraIzy | eorIzy | cmpIzy | ldaIzy =>
    exact readAt_keeps h (eaIzy_keeps h hr _) _ _
  | staZp | stxZp | styZp => exact writeAt_keeps h (eaZp_keeps h hr) _
  | staZpx | styZpx => exact writeAt_keeps h (eaZpIndexed_X_keeps h hr) _
  | stxZpy => exact writeAt_keeps h (eaZpIndexed_Y_keeps h hr) _
  | staAbs | stxAbs | styAbs => exact writeAt_keeps h (eaAbs_keeps h hr) _
  | staAbx => exact writeAt_keeps h (eaAbsIndexed_X_keeps h hr _) _
  | staAby => exact writeAt_keeps h (eaAbsIndexed_Y_keeps h hr _) _
  | staIzx => exact writeAt_keeps h (eaIzx_keeps h hr) _
  | staIzy => exact writeAt_keeps h (eaIzy_keeps h hr _) _
  | aslAcc | lsrAcc | rolAcc | rorAcc => exact applyOp_keeps h hr hs.a _ _
  | aslZp | lsrZp | rolZp | rorZp | incZp | decZp => exact modifyAt_keeps h (eaZp_keeps h hr) _
  | aslZpx | lsrZpx | rolZpx | rorZpx | incZpx | decZpx => exact modifyAt_keeps h (eaZpIndexed_X_keeps h hr) _
  | aslAbs | lsrAbs | rolAbs | rorAbs | incAbs | decAbs => exact modifyAt_keeps h (eaAbs_keeps h hr) _
  | aslAbx | lsrAbx | rolAbx | rorAbx | incAbx | decAbx => exact modifyAt_keeps h (eaAbsIndexed_X_keeps h hr _) _
  | tax | tay => exact applyOp_keeps h h1 hs1.a _ _
  | inx | dex | txa => exact applyOp_keeps h h1 hs1.x _ _
  | iny | dey | tya => exact applyOp_keeps h h1 hs1.y _ _
  | tsx => exact applyOp_keeps h h1 hs1.sp _ _
  | txs => exact setSp_keeps h h1 hs1.x
  | pha => exact push_keeps h h1 hs1.a
  | php => exact push_keeps h h1 (hs1.pushedP .software)
  | pla =>
    obtain ⟨hv, h2⟩ := pull_keeps h (pullDummyReads_keeps h hr)
    exact applyOp_keeps h h2 hv _ _
  | plp =>
    obtain ⟨hv, h2⟩ := pull_keeps h (pullDummyReads_keeps h hr)
    simp only [exec, execPlp, hv]
    exact h.withPulledP h2 _
  | bcs | beq | bmi | bvs => exact branch_keeps h hr (hs.flag _ (by decide))
  | bcc | bne | bpl | bvc => exact branch_keeps h hr (congrArg not (hs.flag _ (by decide)))
  | jmpAbs => exact setPc_keeps h (eaAbs_keeps h hr).2 (eaAbs_keeps h hr).1
  | jmpInd => exact setPc_keeps h (eaInd_keeps h hr).2 (eaInd_keeps h hr).1
  | jsr => exact execJsr_keeps h hr
  | rts => exact execRts_keeps h hr
  | rti => exact returnFromInterrupt_keeps h (pullDummyReads_keeps h hr)
  | brk => exact interruptEntry_keeps h (fetch_keeps h hr).2 _ _
  | clc | sec | cli | sei | clv | cld | sed => exact h.withFlag h1 _ _
  | nop => exact h1
  | unmapped op =>
    simp only [exec, execUnmapped, hs.pc]
    exact h.afterReport hr op (List.contains_iff_mem.mp hi) _

theorem step_keeps (hr : R s t) : EndAlike R (step s) (step t) := by
  obtain ⟨hop, h1⟩ := fetch_keeps h (pollInterrupts_keeps h hr)
  simp only [step, (h.same hr).running, (h.same hr).haltReq, hop]
  split
  · exact hr
  split
  · exact h.withRunning (h.withHaltReq hr false) false
  · exact exec_keeps h h1 _ (decodeOpcode_wellFormed _)

theorem hostCall_keeps (hr : R s t) (c : HostCall) : EndAlike R (hostCall c s) (hostCall c t) := by
  cases c with
  | reset =>
    simp only [hostCall, (h.same hr).running]
    split
    · rfl
    · exact resetSequence_keeps h hr
  | run =>
    simp only [hostCall, (h.same hr).running]
    split
    · rfl
    · exact h.withRunning hr _
  | halt => exact h.withHaltReq hr _
  | signal line b =>
    cases line
    · exact h.withNmi hr b
    · exact h.withIrq hr b

theorem act_keeps (hr : R s t) (a : Action) : EndAlike R (act a s) (act a t) := by
  cases a with
  | call c => exact hostCall_keeps h hr c
  | iterate => exact step_keeps h hr

theorem runActions_keeps (as : List Action) (hr : R s t) : EndAlike R (runActions as s) (runActions as t) := by
  induction as generalizing s t with
  | nil => exact hr
  | cons a as ih =>
    obtain ⟨s', t', hs, ht, hr'⟩ | ⟨r, hs, ht⟩ := (act_keeps h hr a).cases
    · simp only [runActions, hs, ht]
      exact ih hr'
    · simp only [runActions, hs, ht]
      rfl

end

end Sys2Proof.Machine
end

section
/-! SUPPORT. `EXTRA_DUMMY_READS` on the flat RAM host (00_scope.md R5; 20_memory.md R78): a load there changes the trace
and nothing else, so the extra ones change nothing else either. -/

namespace Sys2Proof.Machine

/-- An operation that leaves the host's answers and the parameters alone, and does not look at the parameters or the
trace, keeps the relation. For the plain operations each of the three conditions holds by computation. -/
theorem SameButDummyReads.map {s t : State} (h : SameButDummyReads s t) (f : State → State)
    (hloads : ∀ u, (f u).hostLoads = u.hostLoads := by intros; rfl)
    (hconfig : ∀ u, (f u).config = u.config := by intros; rfl)
    (hf : ∀ u c l, f { u with config := c, log := l } =
      { f u with config := c, log := (f { u with config := c, log := l }).log } := by intros; rfl) :
    SameButDummyReads (f s) (f t) := by
  obtain ⟨hl, hc, ht⟩ := h
  refine ⟨by rw [hloads, hl], by rw [hconfig, hconfig, hc], ?_⟩
  rw [hconfig]
  simpa only [← ht] using hf s t.config t.log

theorem SameButDummyReads.sameInputs {s t : State} (h : SameButDummyReads s t) : SameInputs s t := by
  obtain ⟨-, hc, ht⟩ := h
  rw [ht]
  exact ⟨rfl, rfl, rfl, rfl, rfl, fun _ _ => rfl, fun _ => rfl, rfl, rfl, rfl, rfl, hc⟩

/-- Rows of different loads on the flat RAM host leave the same state but for the trace. -/
theorem SameButDummyReads.afterReads {s t : State} (h : SameButDummyReads s t) (as bs : List Addr) (pc : Addr) :
    SameButDummyReads (s.afterReads as pc) (t.afterReads bs pc) := by
  obtain ⟨hl, hc, ht⟩ := h
  have htl : t.hostLoads = [] := (congrArg State.hostLoads ht).trans hl
  refine ⟨by simp [hl], hc, ?_⟩
  simp only [State.afterReads, hl, htl, List.drop_nil]
  rw [ht]

theorem SameButDummyReads.afterBusRead {s t : State} (h : SameButDummyReads s t) (a : Addr) :
    SameButDummyReads (busRead a s).2 (busRead a t).2 := by
  simpa only [busRead_eq, h.sameInputs.pc] using h.afterReads [a] [a] _

/-- One state may issue an extra dummy read that the other does not. -/
theorem SameButDummyReads.afterExtraRead {s t : State} (h : SameButDummyReads s t) (a : Addr) :
    SameButDummyReads (extraRead a s) (extraRead a t) := by
  simpa only [extraRead_eq, h.sameInputs.pc] using h.afterReads (s.extra [a]) (t.extra [a]) _

/-- Only a read uses up an answer of the host, and only the extra read looks at the parameter; every other operation
does the same to both states. -/
theorem primitivesKeep_sameButDummyReads : PrimitivesKeep SameButDummyReads where
  same := SameButDummyReads.sameInputs
  loadByte_eq h _ := by
    obtain ⟨-, -, ht⟩ := h
    rw [ht]
    rfl
  afterBusRead := SameButDummyReads.afterBusRead
  afterBusWrite h a v := h.map (busWrite a v)
  afterExtraRead := SameButDummyReads.afterExtraRead
  afterReport h op _ a := h.map (report op a)
  withReg h r v := by
    cases r
    · exact h.map ({ · with a := v })
    · exact h.map ({ · with x := v })
    · exact h.map ({ · with y := v })
  withSp h v := h.map ({ · with sp := v })
  withPc h c := h.map ({ · with pc := c })
  result_eq h _ _ _ := by
    obtain ⟨-, -, ht⟩ := h
    rw [ht]
  withResultP h o v slot := h.map fun u => { u with p := (o.apply v slot u.a u.p).2 }
  withFlag h f b := h.map fun u => { u with p := setFlag u.p f b }
  withPulledP h v := h.map ({ · with p := pulledP v })
  withNmi h b := h.map ({ · with nmi := b })
  withIrq h b := h.map ({ · with irq := b })
  withHaltReq h b := h.map ({ · with haltReq := b })
  withRunning h b := h.map ({ · with running := b })

/-- Settles O15: the primitive operations keep "differ in `EXTRA_DUMMY_READS` and in the trace only" on the flat RAM
host, so every run does. -/
theorem dummyReadParameterChangesOnlyTheTrace : Obligations.DummyReadParameterChangesOnlyTheTrace := by
  unfold Obligations.DummyReadParameterChangesOnlyTheTrace
  intro as s t hst
  exact runActions_keeps primitivesKeep_sameButDummyReads as hst

end Sys2Proof.Machine
end

section
/-! SUPPORT. The status register: a flag read after a flag written (10_state.md R35), the forcing of B and T as writes of
those two flags (R44 to R46), and the flags of P that the fourteen operations read and write (42_operations.md R197). -/

namespace Sys2Proof.Machine

/-! ### Reading a flag after writing one -/

theorem Flag.index_lt (f : Flag) : f.index < 8 := by cases f <;> decide

/-- The mask of a flag has that flag's bit and no other. -/
theorem getLsbD_mask (f g : Flag) : (1#8 <<< f.index).getLsbD g.index = decide (g = f) := by
  cases f <;> cases g <;> rfl

@[simp] theorem getFlag_setFlag (p : Byte) (f g : Flag) (b : Bool) :
    getFlag (setFlag p f b) g = if g = f then b else getFlag p g := by
  cases b
  · simp only [getFlag, setFlag, Bool.false_eq_true, if_false, BitVec.getLsbD_and, BitVec.getLsbD_not, getLsbD_mask,
      Flag.index_lt]
    by_cases h : g = f <;> simp [h]
  · simp only [getFlag, setFlag, if_true, BitVec.getLsbD_or, getLsbD_mask]
    by_cases h : g = f <;> simp [h]

/-- Every bit of P is a flag. -/
theorem Flag.exists_index : ∀ {k : Nat}, k < 8 → ∃ f : Flag, f.index = k
  | 0, _ => ⟨.C, rfl⟩
  | 1, _ => ⟨.Z, rfl⟩
  | 2, _ => ⟨.I, rfl⟩
  | 3, _ => ⟨.D, rfl⟩
  | 4, _ => ⟨.B, rfl⟩
  | 5, _ => ⟨.T, rfl⟩
  | 6, _ => ⟨.V, rfl⟩
  | 7, _ => ⟨.N, rfl⟩

/-- A status byte is fixed by its flags. -/
theorem eq_of_getFlag {p q : Byte} (h : ∀ f, getFlag q f = getFlag p f) : q = p := by
  apply BitVec.eq_of_getLsbD_eq
  intro k hk
  obtain ⟨f, rfl⟩ := Flag.exists_index hk
  exact h f

/-! ### The forcing of B and T -/

theorem softwarePushedP_eq (p : Byte) : softwarePushedP p = setFlag (setFlag p .B true) .T true :=
  (BitVec.or_assoc p 0x10 0x20).symm

theorem hardwarePushedP_eq (p : Byte) : hardwarePushedP p = setFlag (setFlag p .B false) .T true := rfl

theorem pulledP_eq (v : Byte) : pulledP v = setFlag (setFlag v .B false) .T true := rfl

/-- A byte that is pulled into P and pushed again by software has B and T set and is else as it was
(10_state.md R44, R46). -/
theorem softwarePushedP_pulledP (v : Byte) : softwarePushedP (pulledP v) = v ||| 0x30 := by
  rw [← show softwarePushedP v = v ||| 0x30 from rfl, softwarePushedP_eq, softwarePushedP_eq, pulledP_eq]
  apply eq_of_getFlag
  intro f
  simp only [getFlag_setFlag]
  split_ifs <;> rfl

/-! ### The flags an operation writes -/

/-- The flags each operation writes (42_operations.md R197). -/
def Operation.flags : Operation → List Flag
  | .adc => [.N, .V, .Z, .C]
  | .sbc => [.N, .V, .Z, .C]
  | .bit => [.N, .V, .Z]
  | .cmp => [.N, .Z, .C]
  | .asl => [.N, .Z, .C]
  | .lsr => [.N, .Z, .C]
  | .rol => [.N, .Z, .C]
  | .ror => [.N, .Z, .C]
  | .and => [.N, .Z]
  | .ora => [.N, .Z]
  | .eor => [.N, .Z]
  | .inc => [.N, .Z]
  | .dec => [.N, .Z]
  | .ldx => [.N, .Z]

theorem getFlag_flagsNZ {f : Flag} (h : f ∉ [Flag.N, .Z]) (r p : Byte) :
    getFlag (flagsNZ r p) f = getFlag p f := by
  simp only [List.mem_cons, List.not_mem_nil, or_false, not_or] at h
  simp [flagsNZ, h]

theorem getFlag_opAdc {f : Flag} (h : f ∉ [Flag.N, .V, .Z, .C]) (v slot a p : Byte) :
    getFlag (opAdc v slot a p).2 f = getFlag p f := by
  simp only [List.mem_cons, List.not_mem_nil, or_false, not_or] at h
  simp only [opAdc]
  split
  · rfl
  · simp [flagsNZ, h]

/-- Carry, then N and Z: the flags of the shifts and of the comparison. -/
theorem getFlag_flagsNZ_setFlag_C {f : Flag} (h : f ∉ [Flag.N, .Z, .C]) (r p : Byte) (b : Bool) :
    getFlag (flagsNZ r (setFlag p .C b)) f = getFlag p f := by
  simp only [List.mem_cons, List.not_mem_nil, or_false, not_or] at h
  simp [flagsNZ, h]

/-- An operation leaves the flags it does not write. -/
theorem getFlag_apply {o : Operation} {f : Flag} (h : f ∉ o.flags) (v slot a p : Byte) :
    getFlag (o.apply v slot a p).2 f = getFlag p f := by
  cases o with
  | adc | sbc => exact getFlag_opAdc h _ _ _ _
  | and | ora | eor | inc | dec | ldx => exact getFlag_flagsNZ h _ _
  | asl | lsr | rol | ror | cmp => exact getFlag_flagsNZ_setFlag_C h _ _ _
  | bit =>
    simp only [Operation.flags, List.mem_cons, List.not_mem_nil, or_false, not_or] at h
    simp [Operation.apply, opBit, h]

/-- Whether an operation answers a byte of its own, where BIT and CMP give the slot back (42_operations.md R192,
R193). -/
def Operation.writesSlot : Operation → Bool
  | .bit => false
  | .cmp => false
  | _ => true

theorem apply_fst_of_not_writesSlot {o : Operation} (h : o.writesSlot = false) (v slot a p : Byte) :
    (o.apply v slot a p).1 = slot := by
  cases o with
  | bit | cmp => rfl
  | _ => exact Bool.noConfusion h

/-! ### The flags an operation reads -/

/-- Two status bytes with every flag but B alike (10_state.md R40). -/
def AgreeOffB (p q : Byte) : Prop := ∀ f, f ≠ Flag.B → getFlag q f = getFlag p f

theorem AgreeOffB.refl (p : Byte) : AgreeOffB p p := fun _ _ => rfl

theorem AgreeOffB.setFlag {p q : Byte} (h : AgreeOffB p q) (f : Flag) (b : Bool) :
    AgreeOffB (setFlag p f b) (setFlag q f b) := fun g hg => by
  simp only [getFlag_setFlag, h g hg]

/-- Writing B brings bytes that agree elsewhere together. -/
theorem AgreeOffB.setFlag_B_eq {p q : Byte} (h : AgreeOffB p q) (b : Bool) :
    Machine.setFlag q .B b = Machine.setFlag p .B b := by
  apply eq_of_getFlag
  intro f
  by_cases hf : f = .B
  · simp [hf]
  · simp [hf, h f hf]

/-- Every push of P replaces B (10_state.md R44, R45). -/
theorem AgreeOffB.pushedP_eq {p q : Byte} (h : AgreeOffB p q) (path : EntryPath) : pushedP path q = pushedP path p := by
  cases path
  · simp only [pushedP, hardwarePushedP_eq, h.setFlag_B_eq]
  · simp only [pushedP, softwarePushedP_eq, h.setFlag_B_eq]

theorem AgreeOffB.flagsNZ {p q : Byte} (h : AgreeOffB p q) (r : Byte) :
    AgreeOffB (flagsNZ r p) (flagsNZ r q) := (h.setFlag _ _).setFlag _ _

theorem AgreeOffB.opAdc {p q : Byte} (h : AgreeOffB p q) (v slot a : Byte) :
    (opAdc v slot a q).1 = (opAdc v slot a p).1 ∧ AgreeOffB (opAdc v slot a p).2 (opAdc v slot a q).2 := by
  simp only [Machine.opAdc, h .D (by decide), h .C (by decide)]
  split
  · exact ⟨rfl, h⟩
  · exact ⟨rfl, ((h.setFlag _ _).setFlag _ _).flagsNZ _⟩

/-- No operation reads B: ADC and SBC read C and D, the rotates read C, and the others no flag. -/
theorem AgreeOffB.apply {p q : Byte} (h : AgreeOffB p q) (o : Operation) (v slot a : Byte) :
    (o.apply v slot a q).1 = (o.apply v slot a p).1 ∧
      AgreeOffB (o.apply v slot a p).2 (o.apply v slot a q).2 := by
  cases o with
  | adc | sbc => exact h.opAdc _ _ _
  | and | ora | eor | inc | dec | ldx => exact ⟨rfl, h.flagsNZ _⟩
  | asl | lsr | cmp => exact ⟨rfl, (h.setFlag _ _).flagsNZ _⟩
  | rol | ror =>
    simp only [Operation.apply, opRol, opRor, h .C (by decide), true_and]
    exact (h.setFlag _ _).flagsNZ _
  | bit => exact ⟨rfl, ((h.setFlag _ _).setFlag _ _).setFlag _ _⟩

/-- Settles O49: a flag is one bit of P by definition, and a write of one is read back by `getFlag_setFlag`. -/
theorem flagsStandAtTheirBits : Obligations.FlagsStandAtTheirBits := by
  unfold Obligations.FlagsStandAtTheirBits
  exact ⟨rfl, fun p => ⟨rfl, getFlag_setFlag p⟩⟩

end Sys2Proof.Machine
end

section
/-! SUPPORT. The frame of the instructions: which of A, X, Y, S and the flags each may change (10_state.md R31 to R43).
The split over the instructions is made once, in `exec_frame`. -/

namespace Sys2Proof.Machine

/-- The instructions that write a register an operation may have as its slot (10_state.md R31, R32). -/
def writesReg : RegName → List Instr
  | .A => writesA
  | .X => writesX
  | .Y => writesY

theorem getReg_setReg (s : State) (r q : RegName) (v : Byte) :
    (s.setReg r v).getReg q = if q = r then v else s.getReg q := by
  cases r <;> cases q <;> rfl

/-- The instruction's rows of the tables name what the operation writes. -/
abbrev Allows (i : Instr) (o : Operation) (slot : RegName) : Prop :=
  (∀ f ∈ o.flags, f ∈ writtenFlags i) ∧ (o.writesSlot = true → i ∈ writesReg slot)

/-- `t` differs from `s` in flags and registers that `i` is said to write only. -/
structure Frame (i : Instr) (s t : State) : Prop where
  flag : ∀ f, f ∉ writtenFlags i → getFlag t.p f = getFlag s.p f
  reg : ∀ r, i ∉ writesReg r → t.getReg r = s.getReg r
  sp : i ∉ writesS → t.sp = s.sp

/-- On the way from `s`, `i` has reached `t` with P and every register as they were, but S where it writes S. -/
structure Untouched (i : Instr) (s t : State) : Prop where
  a : t.a = s.a
  x : t.x = s.x
  y : t.y = s.y
  p : t.p = s.p
  sp : i ∉ writesS → t.sp = s.sp

section
variable {i : Instr} {s t : State}

/-! ### Up to the operation -/

theorem afterReads_untouched (s : State) (as : List Addr) (c : Addr) : Untouched i s (s.afterReads as c) :=
  ⟨rfl, rfl, rfl, rfl, fun _ => rfl⟩

theorem Untouched.busRead (h : Untouched i s t) (a : Addr) : Untouched i s (busRead a t).2 :=
  ⟨h.a, h.x, h.y, h.p, h.sp⟩

theorem Untouched.fetch (h : Untouched i s t) : Untouched i s (fetch t).2 := ⟨h.a, h.x, h.y, h.p, h.sp⟩

theorem fetch_untouched (s : State) : Untouched i s (fetch s).2 := (afterReads_untouched s [] s.pc).fetch

theorem implied_untouched (s : State) : Untouched i s (implied s) := by
  rw [implied_eq]
  exact afterReads_untouched s _ _

/-- The dummy reads of a pulling instruction in closed form. -/
theorem pullDummyReads_eq (s : State) :
    pullDummyReads s = s.afterReads (s.extra [s.pc, stackAddr s.sp]) s.pc := by
  simp only [pullDummyReads, extraRead_eq s, extraRead_afterReads]
  unfold State.extra
  split <;> rfl

theorem pullDummyReads_untouched (s : State) : Untouched i s (pullDummyReads s) := by
  rw [pullDummyReads_eq]
  exact afterReads_untouched s _ _

theorem eaZp_untouched (s : State) : Untouched i s (eaZp s).2 := by
  rw [eaZp_eq .read]
  exact afterReads_untouched s _ _

theorem eaZpIndexed_X_untouched (s : State) : Untouched i s (eaZpIndexed .X s).2 := by
  rw [eaZpIndexed_X_eq .read]
  exact afterReads_untouched s _ _

theorem eaZpIndexed_Y_untouched (s : State) : Untouched i s (eaZpIndexed .Y s).2 := by
  rw [eaZpIndexed_Y_eq .read]
  exact afterReads_untouched s _ _

theorem eaAbs_untouched (s : State) : Untouched i s (eaAbs s).2 := by
  rw [eaAbs_eq .read]
  exact afterReads_untouched s _ _

theorem eaAbsIndexed_X_untouched (s : State) (kind : AccessKind) : Untouched i s (eaAbsIndexed .X kind s).2 := by
  rw [eaAbsIndexed_X_eq]
  exact afterReads_untouched s _ _

theorem eaAbsIndexed_Y_untouched (s : State) (kind : AccessKind) : Untouched i s (eaAbsIndexed .Y kind s).2 := by
  rw [eaAbsIndexed_Y_eq]
  exact afterReads_untouched s _ _

theorem eaIzx_untouched (s : State) : Untouched i s (eaIzx s).2 := by
  rw [eaIzx_eq .read]
  exact afterReads_untouched s _ _

theorem eaIzy_untouched (s : State) (kind : AccessKind) : Untouched i s (eaIzy kind s).2 := by
  rw [eaIzy_eq]
  exact afterReads_untouched s _ _

theorem eaInd_untouched (s : State) : Untouched i s (eaInd s).2 := by
  rw [eaInd_eq]
  exact afterReads_untouched s _ _

theorem branch_untouched (s : State) (c : Bool) : Untouched i s (branch c s) := by
  rw [branch_eq]
  split
  · exact afterReads_untouched s _ _
  · exact afterReads_untouched s _ _

/-- S may be anything where the instruction writes S. -/
theorem Untouched.withSp (h : Untouched i s t) (hi : i ∈ writesS) (v : Byte) : Untouched i s { t with sp := v } :=
  ⟨h.a, h.x, h.y, h.p, fun hn => absurd hi hn⟩

theorem Untouched.push (h : Untouched i s t) (hi : i ∈ writesS) (v : Byte) : Untouched i s (push v t) :=
  ⟨h.a, h.x, h.y, h.p, fun hn => absurd hi hn⟩

theorem Untouched.pull (h : Untouched i s t) (hi : i ∈ writesS) : Untouched i s (pull t).2 :=
  ⟨h.a, h.x, h.y, h.p, fun hn => absurd hi hn⟩

theorem Untouched.withPc (h : Untouched i s t) (c : Addr) : Untouched i s { t with pc := c } :=
  ⟨h.a, h.x, h.y, h.p, h.sp⟩

theorem Untouched.extraRead (h : Untouched i s t) (a : Addr) : Untouched i s (extraRead a t) := by
  rw [extraRead_eq]
  exact ⟨h.a, h.x, h.y, h.p, h.sp⟩

theorem Untouched.getReg (h : Untouched i s t) (r : RegName) : t.getReg r = s.getReg r := by
  cases r
  · exact h.a
  · exact h.x
  · exact h.y

/-! ### From the operation on -/

/-- An instruction that changes P at most. -/
theorem Untouched.withP (h : Untouched i s t) {q : Byte}
    (hq : ∀ f, f ∉ writtenFlags i → getFlag q f = getFlag s.p f) : Frame i s { t with p := q } :=
  ⟨hq, fun r _ => h.getReg r, h.sp⟩

theorem Untouched.frame (h : Untouched i s t) : Frame i s t := h.withP fun _ _ => h.p ▸ rfl

theorem Untouched.withFlag (h : Untouched i s t) {f : Flag} (hf : f ∈ writtenFlags i) (b : Bool) :
    Frame i s { t with p := setFlag t.p f b } :=
  h.withP fun g hg => by
    rw [getFlag_setFlag, if_neg fun e : g = f => hg (e ▸ hf), h.p]

theorem Untouched.applyOp (h : Untouched i s t) {o : Operation} {slot : RegName} (hi : Allows i o slot) (v : Byte) :
    Frame i s (applyOp o v slot t) := by
  obtain ⟨hflags, hslot⟩ := hi
  refine ⟨fun f hf => ?_, fun r hr => ?_, fun hn => (setReg_sp _ _ _).trans (h.sp hn)⟩
  · exact (getFlag_apply (fun hm => hf (hflags f hm)) _ _ _ _).trans (h.p ▸ rfl)
  · have hreg : (Machine.applyOp o v slot t).getReg r =
        (t.setReg slot (o.apply v (t.getReg slot) t.a t.p).1).getReg r := by cases r <;> rfl
    rw [hreg, getReg_setReg]
    split
    · next heq =>
      subst heq
      rw [apply_fst_of_not_writesSlot (Bool.eq_false_iff.mpr fun hw => hr (hslot hw)), h.getReg]
    · exact h.getReg r

theorem Untouched.readAt {e : Addr × State} (h : Untouched i s e.2) {o : Operation} {slot : RegName}
    (hi : Allows i o slot) : Frame i s (readAt o slot e) :=
  (Untouched.busRead h e.1).applyOp hi _

theorem Untouched.writeAt {e : Addr × State} (h : Untouched i s e.2) (r : RegName) : Frame i s (writeAt r e) :=
  Untouched.frame ⟨h.a, h.x, h.y, h.p, h.sp⟩

theorem Untouched.modifyAt {e : Addr × State} (h : Untouched i s e.2) {o : Operation}
    (hi : ∀ f ∈ o.flags, f ∈ writtenFlags i) : Frame i s (modifyAt o e) :=
  ⟨fun f hf => (getFlag_apply (fun hm => hf (hi f hm)) _ _ _ _).trans (h.p ▸ rfl), fun r _ => h.getReg r, h.sp⟩

/-- An instruction that pulls P may change every flag. -/
theorem Untouched.withPulledP (h : Untouched i s t) (hi : ∀ f, f ∈ writtenFlags i) (q : Byte) :
    Frame i s { t with p := q } := h.withP fun f hf => absurd (hi f) hf

/-- The return from an interrupt pulls P, and moves S and PC (47_control_transfer.md R353). -/
theorem Untouched.returnFromInterrupt (h : Untouched i s t) (hs : i ∈ writesS) (hi : ∀ f, f ∈ writtenFlags i) :
    Frame i s (returnFromInterrupt t) :=
  ((((h.pull hs).pull hs).pull hs).withPc _).withPulledP hi _

/-- The entry of BRK pushes three bytes, then sets I and loads PC from its vector (47_control_transfer.md R354). -/
theorem Untouched.softwareEntry (h : Untouched i s t) (hs : i ∈ writesS) (hi : .I ∈ writtenFlags i) (vec : Addr) :
    Frame i s (interruptEntry vec .software t) := by
  have h3 := ((h.push hs (hiByte t.pc)).push hs (loByte t.pc)).push hs (softwarePushedP t.p)
  obtain ⟨hflag, hreg, hsp⟩ := h3.withFlag hi true
  exact ⟨hflag, hreg, hsp⟩

end

/-- Every instruction keeps to its frame, by its addressing mode and access kind. -/
theorem exec_frame (i : Instr) (s : State) : EndAlike (Frame i) (.next s) (exec i s) := by
  cases i with
  | adcImm | sbcImm | andImm | oraImm | eorImm | cmpImm | cpxImm | cpyImm | ldaImm | ldxImm | ldyImm =>
    exact (fetch_untouched s).applyOp (by decide) _
  | adcZp | sbcZp | andZp | oraZp | eorZp | bitZp | cmpZp | cpxZp | cpyZp | ldaZp | ldxZp | ldyZp =>
    exact (eaZp_untouched s).readAt (by decide)
  | adcZpx | sbcZpx | andZpx | oraZpx | eorZpx | cmpZpx | ldaZpx | ldyZpx =>
    exact (eaZpIndexed_X_untouched s).readAt (by decide)
  | ldxZpy => exact (eaZpIndexed_Y_untouched s).readAt (by decide)
  | adcAbs | sbcAbs | andAbs | oraAbs | eorAbs | bitAbs | cmpAbs | cpxAbs | cpyAbs | ldaAbs | ldxAbs | ldyAbs =>
    exact (eaAbs_untouched s).readAt (by decide)
  | adcAbx | sbcAbx | andAbx | oraAbx | eorAbx | cmpAbx | ldaAbx | ldyAbx =>
    exact (eaAbsIndexed_X_untouched s _).readAt (by decide)
  | adcAby | sbcAby | andAby | oraAby | eorAby | cmpAby | ldaAby | ldxAby =>
    exact (eaAbsIndexed_Y_untouched s _).readAt (by decide)
  | adcIzx | sbcIzx | andIzx | oraIzx | eorIzx | cmpIzx | ldaIzx => exact (eaIzx_untouched s).readAt (by decide)
  | adcIzy | sbcIzy | andIzy | oraIzy | eorIzy | cmpIzy | ldaIzy => exact (eaIzy_untouched s _).readAt (by decide)
  | staZp | stxZp | styZp => exact (eaZp_untouched s).writeAt _
  | staZpx | styZpx => exact (eaZpIndexed_X_untouched s).writeAt _
  | stxZpy => exact (eaZpIndexed_Y_untouched s).writeAt _
  | staAbs | stxAbs | styAbs => exact (eaAbs_untouched s).writeAt _
  | staAbx => exact (eaAbsIndexed_X_untouched s _).writeAt _
  | staAby => exact (eaAbsIndexed_Y_untouched s _).writeAt _
  | staIzx => exact (eaIzx_untouched s).writeAt _
  | staIzy => exact (eaIzy_untouched s _).writeAt _
  | aslZp | lsrZp | rolZp | rorZp | incZp | decZp => exact (eaZp_untouched s).modifyAt (by decide)
  | aslZpx | lsrZpx | rolZpx | rorZpx | incZpx | decZpx => exact (eaZpIndexed_X_untouched s).modifyAt (by decide)
  | aslAbs | lsrAbs | rolAbs | rorAbs | incAbs | decAbs => exact (eaAbs_untouched s).modifyAt (by decide)
  | aslAbx | lsrAbx | rolAbx | rorAbx | incAbx | decAbx => exact (eaAbsIndexed_X_untouched s _).modifyAt (by decide)
  | aslAcc | lsrAcc | rolAcc | rorAcc => exact (afterReads_untouched s [] s.pc).applyOp (by decide) _
  | tax | tay | tsx | txa | tya | inx | iny | dex | dey => exact (implied_untouched s).applyOp (by decide) _
  | txs => exact ((implied_untouched s).withSp (by decide) _).frame
  | pha | php => exact ((implied_untouched s).push (by decide) _).frame
  | pla => exact ((pullDummyReads_untouched s).pull (by decide)).applyOp (by decide) _
  | plp => exact ((pullDummyReads_untouched s).pull (by decide)).withPulledP (fun f => by cases f <;> decide) _
  | bcc | bcs | beq | bne | bmi | bpl | bvc | bvs => exact (branch_untouched s _).frame
  | jmpAbs => exact ((eaAbs_untouched s).withPc _).frame
  | jmpInd => exact ((eaInd_untouched s).withPc _).frame
  | jsr =>
    have h1 := (fetch_untouched (i := .jsr) s).extraRead (stackAddr s.sp)
    exact ((((h1.push (by decide) _).push (by decide) _).fetch).withPc _).frame
  | rts =>
    have h2 := ((pullDummyReads_untouched s).pull (i := .rts) (by decide)).pull (by decide)
    exact (((h2.withPc _).extraRead _).withPc _).frame
  | rti => exact (pullDummyReads_untouched s).returnFromInterrupt (by decide) (fun f => by cases f <;> decide)
  | brk => exact (fetch_untouched s).softwareEntry (by decide) (by decide) irqVector
  | clc | sec | cli | sei | clv | cld | sed => exact (implied_untouched s).withFlag (by decide) _
  | nop => exact (implied_untouched s).frame
  | unmapped op => exact Frame.mk (fun _ _ => rfl) (fun _ _ => rfl) fun _ => rfl

theorem frame_of_exec {i : Instr} {s t : State} (h : exec i s = .next t) : Frame i s t := by
  have hframe := exec_frame i s
  rwa [h] at hframe

/-- Settles O19: the flag half of the frame. -/
theorem onlyTheNamedFlagsChange : Obligations.OnlyTheNamedFlagsChange := by
  unfold Obligations.OnlyTheNamedFlagsChange
  intro i s t h
  exact (frame_of_exec h).flag

/-- Settles O20: the register half of the frame. -/
theorem onlyTheNamedRegistersChange : Obligations.OnlyTheNamedRegistersChange := by
  unfold Obligations.OnlyTheNamedRegistersChange
  intro i s t h
  have hframe := frame_of_exec h
  exact ⟨hframe.reg .A, hframe.reg .X, hframe.reg .Y, hframe.sp⟩

end Sys2Proof.Machine
end

section
/-! SUPPORT. The register's B bit (10_state.md R40): no primitive operation brings it anywhere else. -/

namespace Sys2Proof.Machine

/-- An operation that does not look at P, but may write it, keeps the relation where the bytes it leaves in P agree off
B. For the plain operations the condition holds by computation. -/
theorem SameButB.map {s t : State} (h : SameButB s t) (f : State → State) (hp : AgreeOffB (f s).p (f t).p)
    (hf : ∀ u q, f { u with p := q } = { f u with p := (f { u with p := q }).p } := by intros; rfl) :
    SameButB (f s) (f t) := by
  obtain ⟨ht, -⟩ := h
  refine ⟨?_, hp⟩
  simpa only [← ht] using hf s t.p

theorem SameButB.sameInputs {s t : State} (h : SameButB s t) : SameInputs s t := by
  obtain ⟨ht, hp⟩ := h
  have hpush := AgreeOffB.pushedP_eq hp
  rw [ht]
  exact ⟨rfl, rfl, rfl, rfl, rfl, hp, hpush, rfl, rfl, rfl, rfl, rfl⟩

theorem SameButB.afterBusRead {s t : State} (h : SameButB s t) (a : Addr) :
    SameButB (busRead a s).2 (busRead a t).2 := h.map (fun u => (busRead a u).2) h.2

/-- What an operation of the core makes of a slot, and of P but for B. -/
theorem SameButB.apply {s t : State} (h : SameButB s t) (o : Operation) (v slot : Byte) :
    (o.apply v slot t.a t.p).1 = (o.apply v slot s.a s.p).1 ∧
      AgreeOffB (o.apply v slot s.a s.p).2 (o.apply v slot t.a t.p).2 := by
  rw [h.sameInputs.a]
  exact AgreeOffB.apply h.2 o v slot s.a

/-- Only an operation, a write of one flag and a pull change P, and none of them reads B. -/
theorem primitivesKeep_sameButB : PrimitivesKeep SameButB where
  same := SameButB.sameInputs
  loadByte_eq h _ := by
    obtain ⟨ht, -⟩ := h
    rw [ht]
    rfl
  afterBusRead := SameButB.afterBusRead
  afterBusWrite h a v := h.map (busWrite a v) h.2
  afterExtraRead {s t} h a := by
    have hc : t.config = s.config := by rw [h.1]
    simp only [extraRead, hc]
    split
    · exact h.afterBusRead a
    · exact h
  afterReport h op _ a := h.map (report op a) h.2
  withReg h r v := by
    cases r
    · exact h.map ({ · with a := v }) h.2
    · exact h.map ({ · with x := v }) h.2
    · exact h.map ({ · with y := v }) h.2
  withSp h v := h.map ({ · with sp := v }) h.2
  withPc h c := h.map ({ · with pc := c }) h.2
  result_eq h o v slot := (h.apply o v slot).1
  withResultP h o v slot := h.map (fun u => { u with p := (o.apply v slot u.a u.p).2 }) (h.apply o v slot).2
  withFlag h f b := h.map (fun u => { u with p := setFlag u.p f b }) (AgreeOffB.setFlag h.2 f b)
  withPulledP h v := h.map ({ · with p := pulledP v }) (AgreeOffB.refl _)
  withNmi h b := h.map ({ · with nmi := b }) h.2
  withIrq h b := h.map ({ · with irq := b }) h.2
  withHaltReq h b := h.map ({ · with haltReq := b }) h.2
  withRunning h b := h.map ({ · with running := b }) h.2

/-- Settles O16: the primitive operations keep "differ in the B bit of P only", so every run does. -/
theorem breakBitOfTheRegisterIsUnobservable : Obligations.BreakBitOfTheRegisterIsUnobservable := by
  unfold Obligations.BreakBitOfTheRegisterIsUnobservable
  intro as s t hst
  exact runActions_keeps primitivesKeep_sameButB as hst

end Sys2Proof.Machine
end

section
/-! SUPPORT. The invariant of the core. Its memory and its reports are kept by each primitive operation. T is not, since a
primitive may write any flag (`PrimitivesKeep.withFlag`): that T stays 1 comes from the frame of the instructions, from
the pulls, which set T (10_state.md R46), and from the entries, which write I only (60_exceptions.md R408). -/

namespace Sys2Proof.Machine

/-! ### Memory and reports -/

/-- The two parts of `Inv` that do not speak of P, as a relation of a state and itself. -/
def MemAndReports (s t : State) : Prop :=
  t = s ∧ s.mem.wf = true ∧ ∀ op a, Event.report op a ∈ s.log → op ∈ unmappedOpcodes

section
variable {s t : State}

/-- An operation that touches neither memory nor the trace. For the plain operations this holds by computation. -/
theorem MemAndReports.map (h : MemAndReports s t) (f : State → State)
    (hmem : ∀ u, (f u).mem = u.mem := by intros; rfl) (hlog : ∀ u, (f u).log = u.log := by intros; rfl) :
    MemAndReports (f s) (f t) := by
  obtain ⟨rfl, hwf, hrep⟩ := h
  exact ⟨rfl, by rwa [hmem], by rwa [hlog]⟩

theorem MemAndReports.afterBusRead (h : MemAndReports s t) (a : Addr) :
    MemAndReports (busRead a s).2 (busRead a t).2 := by
  obtain ⟨rfl, hwf, hrep⟩ := h
  exact ⟨rfl, hwf, by simpa using hrep⟩

theorem MemAndReports.afterBusWrite (h : MemAndReports s t) (a : Addr) (v : Byte) :
    MemAndReports (busWrite a v s) (busWrite a v t) := by
  obtain ⟨rfl, hwf, hrep⟩ := h
  exact ⟨rfl, write_wf hwf a v, by simpa using hrep⟩

theorem MemAndReports.afterReport (h : MemAndReports s t) {op : Byte} (hop : op ∈ unmappedOpcodes) (a : Addr) :
    MemAndReports (report op a s) (report op a t) := by
  obtain ⟨rfl, hwf, hrep⟩ := h
  refine ⟨rfl, hwf, fun op' a' hm => ?_⟩
  obtain heq | hm := List.mem_cons.mp hm
  · cases heq
    exact hop
  · exact hrep op' a' hm

theorem primitivesKeep_memAndReports : PrimitivesKeep MemAndReports where
  same h := by
    obtain ⟨rfl, -⟩ := h
    exact ⟨rfl, rfl, rfl, rfl, rfl, fun _ _ => rfl, fun _ => rfl, rfl, rfl, rfl, rfl, rfl⟩
  loadByte_eq h _ := by rw [h.1]
  afterBusRead := MemAndReports.afterBusRead
  afterBusWrite := MemAndReports.afterBusWrite
  afterExtraRead {s t} h a := by
    obtain rfl := h.1
    simp only [extraRead]
    split
    · exact h.afterBusRead a
    · exact h
  afterReport h _ hop a := h.afterReport hop a
  withReg h r v := h.map (State.setReg · r v) (by simp) (by simp)
  withSp h v := h.map ({ · with sp := v })
  withPc h c := h.map ({ · with pc := c })
  result_eq h _ _ _ := by rw [h.1]
  withResultP h o v slot := h.map fun u => { u with p := (o.apply v slot u.a u.p).2 }
  withFlag h f b := h.map fun u => { u with p := setFlag u.p f b }
  withPulledP h v := h.map ({ · with p := pulledP v })
  withNmi h b := h.map ({ · with nmi := b })
  withIrq h b := h.map ({ · with irq := b })
  withHaltReq h b := h.map ({ · with haltReq := b })
  withRunning h b := h.map ({ · with running := b })

/-! ### T -/

/-- The two instructions that write T (10_state.md R41). -/
theorem eq_plp_or_rti_of_writes_T {i : Instr} (h : .T ∈ writtenFlags i) : i = .plp ∨ i = .rti := by
  cases i <;> simp_all [writtenFlags]

theorem getFlag_pulledP_T (v : Byte) : getFlag (pulledP v) .T = true := by
  rw [pulledP_eq, getFlag_setFlag, if_pos rfl]

theorem exec_keeps_T {i : Instr} (h : exec i s = .next t) (hs : getFlag s.p .T = true) : getFlag t.p .T = true := by
  by_cases hi : .T ∈ writtenFlags i
  · obtain rfl | rfl := eq_plp_or_rti_of_writes_T hi
    · cases h
      exact getFlag_pulledP_T _
    · cases h
      exact getFlag_pulledP_T _
  · rw [(frame_of_exec h).flag .T hi, hs]

/-- Every entry writes I and no other flag of the register (60_exceptions.md R408). -/
theorem interruptEntry_p (vec : Addr) (path : EntryPath) (s : State) :
    (interruptEntry vec path s).p = setFlag s.p .I true := by
  rw [interruptEntry_eq]
  cases path
  · rw [entryDummyReads_hardware]
    rfl
  · rfl

theorem pollInterrupts_keeps_T (s : State) : getFlag (pollInterrupts s).p .T = getFlag s.p .T := by
  unfold pollInterrupts
  split_ifs <;> simp [interruptEntry_p]

theorem lowerStack_p (s : State) : (lowerStack s).p = s.p := by simp [lowerStack, extraRead_eq]

theorem loadVector_p (vec : Addr) (s : State) : (loadVector vec s).p = setFlag s.p .I true := rfl

/-- Both modes of `reset()` write I and no other flag (70_reset_and_hazards.md R451, R452). -/
theorem resetSequence_p (s : State) : (resetSequence s).p = setFlag s.p .I true := by
  unfold resetSequence
  split
  · exact interruptEntry_p _ _ s
  · simp only [loadVector_p, lowerStack_p, entryDummyReads_hardware, afterReads_p]

/-- What an iteration can do: nothing, the halt, or one instruction after the poll (40_dispatcher.md R120). -/
theorem step_cases (h : step s = .next t) :
    t = s ∨ t = stopRun s ∨
      exec (decodeOpcode (fetch (pollInterrupts s)).1) (fetch (pollInterrupts s)).2 = .next t := by
  unfold step at h
  split_ifs at h
  · cases h
    exact .inl rfl
  · cases h
    exact .inr (.inl rfl)
  · exact .inr (.inr h)

theorem step_keeps_T (h : step s = .next t) (hs : getFlag s.p .T = true) : getFlag t.p .T = true := by
  obtain rfl | rfl | hexec := step_cases h
  · exact hs
  · exact hs
  · exact exec_keeps_T hexec (by rw [fetch_p, pollInterrupts_keeps_T, hs])

/-- `reset()` is the one host call that writes P. -/
theorem hostCall_keeps_T {c : HostCall} (h : hostCall c s = .next t) (hs : getFlag s.p .T = true) :
    getFlag t.p .T = true := by
  cases c with
  | reset =>
    simp only [hostCall] at h
    split at h
    · cases h
    · cases h
      simp [resetSequence_p, hs]
  | run =>
    simp only [hostCall] at h
    split at h
    · cases h
    · cases h
      exact hs
  | halt =>
    cases h
    exact hs
  | signal line b =>
    cases h
    cases line <;> exact hs

/-! ### The invariant -/

/-- Every host call and every iteration keeps the invariant. -/
theorem act_keeps_inv {a : Action} (hs : Inv s) (h : act a s = .next t) : Inv t := by
  obtain ⟨hwf, hT, hrep⟩ := hs
  have hkeep := act_keeps primitivesKeep_memAndReports ⟨rfl, hwf, hrep⟩ a
  rw [h] at hkeep
  obtain ⟨-, hwf', hrep'⟩ := hkeep
  refine ⟨hwf', ?_, hrep'⟩
  cases a with
  | call c => exact hostCall_keeps_T h hT
  | iterate => exact step_keeps_T h hT

/-- What every action keeps, every run keeps. -/
theorem runActions_induction {P : State → Prop} (hact : ∀ {a s t}, P s → act a s = .next t → P t)
    {as : List Action} {s t : State} (hs : P s) (h : runActions as s = .next t) : P t := by
  induction as generalizing s with
  | nil =>
    cases h
    exact hs
  | cons a as ih =>
    simp only [runActions] at h
    split at h
    · next u hu => exact ih (hact hs hu) h
    · cases h
    · cases h

end

/-- Settles O1: the values are those written in the power-on state. -/
theorem powerOnHoldsTheSpecifiedValues : Obligations.PowerOnHoldsTheSpecifiedValues := by
  unfold Obligations.PowerOnHoldsTheSpecifiedValues
  decide

/-- Settles O10: the trace at power-on is empty, and that of `reset()` holds five accesses and no report. -/
theorem invariantHoldsAtPowerOnAndReset : Obligations.InvariantHoldsAtPowerOnAndReset := by
  unfold Obligations.InvariantHoldsAtPowerOnAndReset
  exact ⟨⟨rfl, rfl, by simp [State.powerOn]⟩, ⟨rfl, rfl, by simp [State.reset]⟩⟩

/-- Settles O11: an iteration is an action. -/
theorem everyStepKeepsTheInvariant : Obligations.EveryStepKeepsTheInvariant := by
  unfold Obligations.EveryStepKeepsTheInvariant
  intro s t hs h
  exact act_keeps_inv (a := .iterate) hs h

/-- Settles O12: every action keeps the invariant, so every run does. -/
theorem everyRunKeepsTheInvariant : Obligations.EveryRunKeepsTheInvariant := by
  unfold Obligations.EveryRunKeepsTheInvariant
  intro as s t hs h
  exact runActions_induction act_keeps_inv hs h

end Sys2Proof.Machine
end

section
/-! SUPPORT. PHP and PLP in closed form (46_stack_unit.md R324, R326), and one after the other. -/

namespace Sys2Proof.Machine

/-- On the flat RAM host a load gives the byte in memory (20_memory.md R78). -/
theorem answer_of_hostLoads_nil {s : State} (h : s.hostLoads = []) (k : Nat) (a : Addr) :
    s.answer k a = s.mem.read a := by simp [State.answer, h]

theorem exec_php_eq (s : State) :
    exec .php s = .next (push (softwarePushedP s.p) (s.afterReads (s.extra [s.pc]) s.pc)) := by
  simp only [exec, execPhp, extraRead_eq, afterReads_p]

theorem exec_plp_eq (s : State) :
    exec .plp s = .next { s.afterReads (s.extra [s.pc, stackAddr s.sp] ++ [stackAddr (s.sp + 1)]) s.pc with
      sp := s.sp + 1
      p := pulledP (s.answer (s.extra [s.pc, stackAddr s.sp]).length (stackAddr (s.sp + 1))) } := by
  have hpull := pull_afterReads s (s.extra [s.pc, stackAddr s.sp]) s.pc s.sp s.p
  simp only [exec, execPlp, pullDummyReads_eq]
  rw [show s.afterReads (s.extra [s.pc, stackAddr s.sp]) s.pc =
    { s.afterReads (s.extra [s.pc, stackAddr s.sp]) s.pc with sp := s.sp, p := s.p } from rfl, hpull]

/-- Settles O54: PHP stores at the address PLP read, one above the S at the start, and pushes `v | 0x30` by
`softwarePushedP_pulledP`. -/
theorem plpThenPhpPushesTheByteWithBAndTSet : Obligations.PlpThenPhpPushesTheByteWithBAndTSet := by
  unfold Obligations.PlpThenPhpPushesTheByteWithBAndTSet
  intro s hl hwf
  refine ⟨_, _, exec_plp_eq s, exec_php_eq _, by simp, fun a => ?_⟩
  simp only [push_mem, afterReads_mem, afterReads_sp, answer_of_hostLoads_nil hl, softwarePushedP_pulledP]
  split
  · next h => rw [h, read_write_same hwf]
  · next h => exact read_write_ne h _ _

end Sys2Proof.Machine
end

section
/-! SUPPORT. The memory and the trace. A predicate on memory, the host's answers and the trace that one access and one
report keep is kept by every iteration; with `TraceFrom` as the predicate, the stores of the trace are what became of
memory, and on the flat RAM host its reads saw them (20_memory.md R72, R78). -/

namespace Sys2Proof.Machine

/-- `P` speaks of memory, the host's answers and the trace only, and every access and report keeps it. -/
structure BusInvariant (P : State → Prop) : Prop where
  congr : ∀ {s t}, P s → t.mem = s.mem → t.hostLoads = s.hostLoads → t.log = s.log → P t
  afterBusRead : ∀ {s}, P s → ∀ a, P (busRead a s).2
  afterBusWrite : ∀ {s}, P s → ∀ a v, P (busWrite a v s)
  afterReport : ∀ {s}, P s → ∀ op ∈ unmappedOpcodes, ∀ a, P (report op a s)

/-- A predicate as a relation of a state and itself. -/
def Holding (P : State → Prop) (s t : State) : Prop := t = s ∧ P s

section
variable {P : State → Prop} {s t : State}

/-- An operation that is no access and no report. For the plain operations the conditions hold by computation. -/
theorem Holding.map (h : Holding P s t) (hP : BusInvariant P) (f : State → State)
    (hmem : ∀ u, (f u).mem = u.mem := by intros; rfl)
    (hloads : ∀ u, (f u).hostLoads = u.hostLoads := by intros; rfl)
    (hlog : ∀ u, (f u).log = u.log := by intros; rfl) : Holding P (f s) (f t) := by
  obtain ⟨rfl, hs⟩ := h
  exact ⟨rfl, hP.congr hs (hmem _) (hloads _) (hlog _)⟩

theorem primitivesKeep_holding (hP : BusInvariant P) : PrimitivesKeep (Holding P) where
  same h := by
    obtain ⟨rfl, -⟩ := h
    exact ⟨rfl, rfl, rfl, rfl, rfl, fun _ _ => rfl, fun _ => rfl, rfl, rfl, rfl, rfl, rfl⟩
  loadByte_eq h _ := by rw [h.1]
  afterBusRead h a := ⟨by rw [h.1], hP.afterBusRead h.2 a⟩
  afterBusWrite h a v := ⟨by rw [h.1], hP.afterBusWrite h.2 a v⟩
  afterExtraRead {s t} h a := by
    obtain ⟨rfl, hs⟩ := h
    refine ⟨rfl, ?_⟩
    unfold extraRead
    split
    · exact hP.afterBusRead hs a
    · exact hs
  afterReport h op hop a := ⟨by rw [h.1], hP.afterReport h.2 op hop a⟩
  withReg h r v := h.map hP (State.setReg · r v) (by simp) (by simp) (by simp)
  withSp h v := h.map hP ({ · with sp := v })
  withPc h c := h.map hP ({ · with pc := c })
  result_eq h _ _ _ := by rw [h.1]
  withResultP h o v slot := h.map hP fun u => { u with p := (o.apply v slot u.a u.p).2 }
  withFlag h f b := h.map hP fun u => { u with p := setFlag u.p f b }
  withPulledP h v := h.map hP ({ · with p := pulledP v })
  withNmi h b := h.map hP ({ · with nmi := b })
  withIrq h b := h.map hP ({ · with irq := b })
  withHaltReq h b := h.map hP ({ · with haltReq := b })
  withRunning h b := h.map hP ({ · with running := b })

theorem step_keeps_busInvariant (hP : BusInvariant P) (hs : P s) (h : step s = .next t) : P t := by
  have hkeep := step_keeps (primitivesKeep_holding hP) ⟨rfl, hs⟩
  rw [h] at hkeep
  exact hkeep.2

end

/-! ### The trace since a state -/

/-- What happened between `s` and `t` is in the trace: memory is the replay of the events added, and on the flat RAM
host the reads among them gave the bytes last stored. -/
def TraceFrom (s t : State) : Prop :=
  ∃ es, t.log = es ++ s.log ∧ t.mem = replay es s.mem ∧
    (s.hostLoads = [] → t.hostLoads = [] ∧ coherent es s.mem)

section
variable {s t : State}

theorem TraceFrom.refl (s : State) : TraceFrom s s := ⟨[], rfl, rfl, fun hl => ⟨hl, trivial⟩⟩

/-- A read on the flat RAM host gives the byte in memory, which is the replay of the events before it. -/
theorem TraceFrom.afterBusRead (h : TraceFrom s t) (a : Addr) : TraceFrom s (busRead a t).2 := by
  obtain ⟨es, hlog, hmem, hflat⟩ := h
  refine ⟨.read a (t.loadByte a) :: es, by simp [hlog], hmem, fun hl => ?_⟩
  obtain ⟨htl, hco⟩ := hflat hl
  have hbyte : t.loadByte a = (replay es s.mem).read a := by
    rw [loadByte_eq_answer, answer_of_hostLoads_nil htl, hmem]
  exact ⟨by simp [htl], hbyte, hco⟩

/-- A store reaches memory and the trace at once. -/
theorem TraceFrom.afterBusWrite (h : TraceFrom s t) (a : Addr) (v : Byte) : TraceFrom s (busWrite a v t) := by
  obtain ⟨es, hlog, hmem, hflat⟩ := h
  exact ⟨.write a v :: es, by simp [hlog], by simp [hmem, replay], hflat⟩

theorem TraceFrom.afterReport (h : TraceFrom s t) (op : Byte) (a : Addr) : TraceFrom s (report op a t) := by
  obtain ⟨es, hlog, hmem, hflat⟩ := h
  exact ⟨.report op a :: es, by simp [hlog], hmem, hflat⟩

theorem busInvariant_traceFrom (s : State) : BusInvariant (TraceFrom s) where
  congr h hmem hloads hlog := by simpa only [TraceFrom, hmem, hloads, hlog] using h
  afterBusRead := TraceFrom.afterBusRead
  afterBusWrite := TraceFrom.afterBusWrite
  afterReport h op _ a := h.afterReport op a

theorem traceFrom_of_step (h : step s = .next t) : TraceFrom s t :=
  step_keeps_busInvariant (busInvariant_traceFrom s) (.refl s) h

end

/-- Settles O13: the memory half of the trace of a step. -/
theorem memoryIsTheReplayOfTheTrace : Obligations.MemoryIsTheReplayOfTheTrace := by
  unfold Obligations.MemoryIsTheReplayOfTheTrace
  intro s t h
  obtain ⟨es, hlog, hmem, -⟩ := traceFrom_of_step h
  exact ⟨es, hlog, hmem⟩

/-- Settles O14: the flat RAM half of the trace of a step. -/
theorem flatRamReadsSeeTheLastStore : Obligations.FlatRamReadsSeeTheLastStore := by
  unfold Obligations.FlatRamReadsSeeTheLastStore
  intro s t hl h
  obtain ⟨es, hlog, -, hflat⟩ := traceFrom_of_step h
  obtain ⟨htl, hco⟩ := hflat hl
  exact ⟨htl, es, hlog, hco⟩

end Sys2Proof.Machine
end

section
/-! SUPPORT. Which instructions leave memory as it is: those whose procedures issue loads only (20_memory.md R71). -/

namespace Sys2Proof.Machine

theorem applyOp_mem (o : Operation) (v : Byte) (slot : RegName) (s : State) : (applyOp o v slot s).mem = s.mem :=
  setReg_mem slot _ s

/-- The read procedure of every mode with an effective address. -/
theorem readAt_mem {s : State} {m : Mode} {e : Addr × State} (he : e = (s.ea .read m, s.atAccess .read m))
    (o : Operation) (slot : RegName) : (readAt o slot e).mem = s.mem := by
  rw [he, readAt_eq, applyOp_mem]
  rfl

theorem implied_mem (s : State) : (implied s).mem = s.mem := by rw [implied_eq, afterReads_mem]

theorem pullDummyReads_mem (s : State) : (pullDummyReads s).mem = s.mem := by rw [pullDummyReads_eq, afterReads_mem]

theorem branch_mem (c : Bool) (s : State) : (branch c s).mem = s.mem := by
  rw [branch_eq]
  split
  · rfl
  · rfl

theorem eaAbs_mem (s : State) : (eaAbs s).2.mem = s.mem := by
  rw [eaAbs_eq .read]
  rfl

theorem eaInd_mem (s : State) : (eaInd s).2.mem = s.mem := by rw [eaInd_eq, afterReads_mem]

/-- Three pulls and no push (47_control_transfer.md R353). -/
theorem returnFromInterrupt_mem (s : State) : (returnFromInterrupt s).mem = s.mem := rfl

/-- Every instruction outside the three tables of storing instructions, by its addressing mode. -/
theorem exec_keeps_mem {i : Instr} (hstore : i ∉ storeInstrs) (hmodify : i ∉ modifyInstrs)
    (hpush : i ∉ pushInstrs) (s : State) : EndAlike (fun s t => t.mem = s.mem) (.next s) (exec i s) := by
  cases i with
  | adcImm | sbcImm | andImm | oraImm | eorImm | cmpImm | cpxImm | cpyImm | ldaImm | ldxImm | ldyImm =>
    exact applyOp_mem _ _ _ _
  | adcZp | sbcZp | andZp | oraZp | eorZp | bitZp | cmpZp | cpxZp | cpyZp | ldaZp | ldxZp | ldyZp =>
    exact readAt_mem (eaZp_eq _ s) _ _
  | adcZpx | sbcZpx | andZpx | oraZpx | eorZpx | cmpZpx | ldaZpx | ldyZpx =>
    exact readAt_mem (eaZpIndexed_X_eq _ s) _ _
  | ldxZpy => exact readAt_mem (eaZpIndexed_Y_eq _ s) _ _
  | adcAbs | sbcAbs | andAbs | oraAbs | eorAbs | bitAbs | cmpAbs | cpxAbs | cpyAbs | ldaAbs | ldxAbs | ldyAbs =>
    exact readAt_mem (eaAbs_eq _ s) _ _
  | adcAbx | sbcAbx | andAbx | oraAbx | eorAbx | cmpAbx | ldaAbx | ldyAbx =>
    exact readAt_mem (eaAbsIndexed_X_eq _ s) _ _
  | adcAby | sbcAby | andAby | oraAby | eorAby | cmpAby | ldaAby | ldxAby =>
    exact readAt_mem (eaAbsIndexed_Y_eq _ s) _ _
  | adcIzx | sbcIzx | andIzx | oraIzx | eorIzx | cmpIzx | ldaIzx => exact readAt_mem (eaIzx_eq _ s) _ _
  | adcIzy | sbcIzy | andIzy | oraIzy | eorIzy | cmpIzy | ldaIzy => exact readAt_mem (eaIzy_eq _ s) _ _
  | staZp | staZpx | staAbs | staAbx | staAby | staIzx | staIzy | stxZp | stxZpy | stxAbs | styZp | styZpx | styAbs =>
    exact absurd (by decide) hstore
  | aslZp | aslZpx | aslAbs | aslAbx | lsrZp | lsrZpx | lsrAbs | lsrAbx | rolZp | rolZpx | rolAbs | rolAbx
  | rorZp | rorZpx | rorAbs | rorAbx | incZp | incZpx | incAbs | incAbx | decZp | decZpx | decAbs | decAbx =>
    exact absurd (by decide) hmodify
  | pha | php | jsr | brk => exact absurd (by decide) hpush
  | aslAcc | lsrAcc | rolAcc | rorAcc => exact applyOp_mem _ _ _ s
  | tax | tay | tsx | txa | tya | inx | iny | dex | dey => exact (applyOp_mem _ _ _ _).trans (implied_mem s)
  | txs | clc | sec | cli | sei | clv | cld | sed | nop => exact implied_mem s
  | pla => exact (applyOp_mem _ _ _ _).trans (pullDummyReads_mem s)
  | plp => exact pullDummyReads_mem s
  | rti => exact (returnFromInterrupt_mem _).trans (pullDummyReads_mem s)
  | rts =>
    simp only [exec, execRts, extraRead_eq]
    exact pullDummyReads_mem s
  | bcc | bcs | beq | bne | bmi | bpl | bvc | bvs => exact branch_mem _ s
  | jmpAbs => exact eaAbs_mem s
  | jmpInd => exact eaInd_mem s
  | unmapped op => exact report_mem op _ s

/-- Settles O22: memory is the same list, so it reads the same. -/
theorem nonStoringInstructionsLeaveMemoryAlone : Obligations.NonStoringInstructionsLeaveMemoryAlone := by
  unfold Obligations.NonStoringInstructionsLeaveMemoryAlone
  intro i s t hstore hmodify hpush h a
  have hmem := exec_keeps_mem hstore hmodify hpush s
  rw [h] at hmem
  exact congrArg (Memory.read · a) hmem

end Sys2Proof.Machine
end

section
/-! SUPPORT. The encoder and the decoder undo each other: opcode by opcode (30_encoding.md R93), then with the operand
bytes the mode asks for (R91, R96). -/

namespace Sys2Proof

/-! ### The opcode byte -/

/-- The map of R94 has each instruction's opcode of its "Encoding" line; a byte of R95 is its own opcode. -/
theorem decodeOpcode_opcodeOf {i : Instr} (hi : i.wellFormed = true) : decodeOpcode (opcodeOf i) = i := by
  cases i with
  | unmapped op => exact Laws.OpcodeRoundTrip.unmapped op hi
  | _ => rfl

theorem opcodeOf_decodeOpcode : ∀ op : Byte, opcodeOf (decodeOpcode op) = op := by decide

theorem decodeOpcode_eq_unmapped_iff (op : Byte) : decodeOpcode op = .unmapped op ↔ op ∈ unmappedOpcodes where
  mp h := by
    have hwf := Machine.decodeOpcode_wellFormed op
    rw [h] at hwf
    exact List.contains_iff_mem.mp hwf
  mpr := Laws.OpcodeRoundTrip.unmapped_bytes op

/-! ### The opcode byte with what follows it -/

theorem decode_cons_of_le {op : Byte} {bytes : List Byte}
    (h : (decodeOpcode op).mode.operandBytes ≤ bytes.length) :
    decode (op :: bytes) = .ok (decodeOpcode op, bytes.take (decodeOpcode op).mode.operandBytes,
      bytes.drop (decodeOpcode op).mode.operandBytes) :=
  if_neg h.not_gt

theorem decode_cons_of_lt {op : Byte} {bytes : List Byte}
    (h : bytes.length < (decodeOpcode op).mode.operandBytes) : decode (op :: bytes) = .error (.missingOperand op) :=
  if_pos h

section
variable {i : Instr} {operands : List Byte}

theorem Instr.encodable_iff :
    i.encodable operands = true ↔ i.wellFormed = true ∧ operands.length = i.mode.operandBytes := by
  simp [Instr.encodable]

theorem Instr.length_sub_one : i.length - 1 = i.mode.operandBytes := Nat.add_sub_cancel_left ..

/-- The split after the operand bytes falls where `operands` ends. -/
theorem decode_encode_append (h : i.encodable operands = true) (rest : List Byte) :
    decode (encode i operands ++ rest) = .ok (i, operands, rest) := by
  obtain ⟨hi, hlen⟩ := Instr.encodable_iff.mp h
  have hop := decodeOpcode_opcodeOf hi
  rw [encode, List.cons_append, decode_cons_of_le (by simp [hop, hlen]), hop, List.take_left' hlen,
    List.drop_left' hlen]

theorem decode_encode_of_missing_operand (hi : i.wellFormed = true)
    (hlen : operands.length < i.mode.operandBytes) :
    decode (encode i operands) = .error (.missingOperand (opcodeOf i)) :=
  decode_cons_of_lt ((decodeOpcode_opcodeOf hi).symm ▸ hlen)

end

/-- Settles O52: the opcode byte gives the instruction back, and the instruction's mode splits what follows. -/
theorem decodeOfEncodeIsTheInstruction : Obligations.DecodeOfEncodeIsTheInstruction := by
  unfold Obligations.DecodeOfEncodeIsTheInstruction
  intro i operands rest hi
  rw [Instr.length_sub_one]
  exact ⟨fun hlen => decode_encode_append (Instr.encodable_iff.mpr ⟨hi, hlen⟩) rest,
    decode_encode_of_missing_operand hi⟩

/-- Settles O50: each whole word is the encoding of its instruction, with the rest after it. -/
theorem specWordsDecode : Obligations.SpecWordsDecode := by
  unfold Obligations.SpecWordsDecode
  exact ⟨decode_encode_append (i := .inx) (operands := []) rfl [],
    decode_encode_append (i := .aslAcc) (operands := []) rfl [0xFF],
    decode_encode_append (i := .ldaImm) (operands := [0xFF]) rfl [],
    decode_encode_append (i := .ldaZp) (operands := [0x10]) rfl [],
    decode_encode_append (i := .ldxZpy) (operands := [0x10]) rfl [],
    decode_encode_append (i := .jmpAbs) (operands := [0x00, 0x20]) rfl [],
    decode_encode_append (i := .ldaAbx) (operands := [0xF0, 0x20]) rfl [0xEA],
    decode_encode_append (i := .ldaIzx) (operands := [0x40]) rfl [],
    decode_encode_append (i := .staIzy) (operands := [0x40]) rfl [],
    decode_encode_append (i := .jmpInd) (operands := [0xFF, 0x30]) rfl [],
    decode_encode_append (i := .bne) (operands := [0xFE]) rfl [],
    decode_encode_append (i := .pha) (operands := []) rfl [],
    decode_encode_append (i := .adcAbx) (operands := [0xFF, 0x0F]) rfl [],
    decode_encode_append (i := .unmapped 0x02) (operands := []) rfl [0x03],
    rfl,
    decode_encode_of_missing_operand (i := .ldaAbx) (operands := [0xF0]) rfl (by decide)⟩

/-- Settles O51: the decoder gives well-formed instructions only, and the encoder gives every byte back. -/
theorem everyByteIsOneInstruction : Obligations.EveryByteIsOneInstruction := by
  unfold Obligations.EveryByteIsOneInstruction
  exact fun op =>
    ⟨Machine.decodeOpcode_wellFormed op, opcodeOf_decodeOpcode op, decodeOpcode_eq_unmapped_iff op⟩

end Sys2Proof
end

section
/-! SUPPORT. One iteration of the dispatcher (40_dispatcher.md R120): what the poll finds, and the instruction that runs
after it. -/

namespace Sys2Proof.Machine

/-- An entry of NMI or IRQ in closed form (60_exceptions.md R408). -/
theorem interruptEntry_hardware_eq (vec : Addr) (s : State) :
    interruptEntry vec .hardware s =
      vectored vec (entryPushed ((s.p &&& 0xEF) ||| 0x20) (s.afterReads (s.extra [s.pc, s.pc]) s.pc)) := by
  rw [interruptEntry_eq, entryDummyReads_hardware]
  rfl

section
variable {s : State}

theorem pollInterrupts_of_nmi (hnmi : s.nmi = true) :
    pollInterrupts s = { interruptEntry nmiVector .hardware s with nmi := false } := if_pos hnmi

theorem pollInterrupts_of_irq (hnmi : s.nmi = false) (hI : getFlag s.p .I = false) (hirq : s.irq = true) :
    pollInterrupts s = { interruptEntry irqVector .hardware s with irq := false } := by
  simp [pollInterrupts, hnmi, hI, hirq]

/-- No entry without an NMI and with IRQ low or masked (40_dispatcher.md R124). -/
theorem pollInterrupts_of_quiet (hs : Quiet s) : pollInterrupts s = s := by
  obtain ⟨-, -, hnmi, hirq | hI⟩ := hs
  · simp [pollInterrupts, hnmi, hirq]
  · simp [pollInterrupts, hnmi, hI]

/-- Inside `run()` with no halt request, the instruction at PC after the poll runs (40_dispatcher.md R125). -/
theorem step_of_running {t : State} (hrun : s.running = true) (hhalt : s.haltReq = false)
    (hpoll : pollInterrupts s = t) :
    step s = exec (decodeOpcode (t.answer 0 t.pc)) (t.afterReads [t.pc] (t.pc + 1)) := by
  simp [step, hrun, hhalt, hpoll, fetch_eq]

theorem step_of_quiet (hs : Quiet s) :
    step s = exec (decodeOpcode (s.answer 0 s.pc)) (s.afterReads [s.pc] (s.pc + 1)) := by
  have hpoll := pollInterrupts_of_quiet hs
  obtain ⟨hrun, hhalt, -⟩ := hs
  exact step_of_running hrun hhalt hpoll

theorem step_of_haltReq (hrun : s.running = true) (hhalt : s.haltReq = true) : step s = .next (stopRun s) := by
  simp [step, hrun, hhalt]

end

/-- The report of an unmapped opcode names the address its opcode was fetched from (40_dispatcher.md R126). -/
theorem exec_unmapped_eq (op : Byte) (s : State) :
    exec (.unmapped op) s = .next { s with log := .report op (s.pc - 1) :: s.log } := rfl

/-- One fetch uses up one answer of the host and logs one read. -/
theorem afterReads_singleton (s : State) (a c : Addr) :
    s.afterReads [a] c = { s with
      pc := c
      hostLoads := s.hostLoads.tail
      log := .read a (s.answer 0 a) :: s.log } := by
  simp [State.afterReads, State.readEvents]

/-- Settles O6: the poll finds NMI before it looks at I and IRQ. -/
theorem stepTakesNmiFirst : Obligations.StepTakesNmiFirst := by
  unfold Obligations.StepTakesNmiFirst
  intro s hrun hhalt hnmi
  refine step_of_running hrun hhalt ?_
  rw [pollInterrupts_of_nmi hnmi, interruptEntry_hardware_eq]
  rfl

/-- Settles O7: without an NMI and with I = 0 the poll finds IRQ. -/
theorem stepTakesIrqWhenNotMasked : Obligations.StepTakesIrqWhenNotMasked := by
  unfold Obligations.StepTakesIrqWhenNotMasked
  intro s hrun hhalt hnmi hI hirq
  refine step_of_running hrun hhalt ?_
  rw [pollInterrupts_of_irq hnmi hI hirq, interruptEntry_hardware_eq]
  rfl

/-- Settles O5: the poll changes nothing at a quiet boundary. -/
theorem stepRunsTheDecodedInstruction : Obligations.StepRunsTheDecodedInstruction := by
  unfold Obligations.StepRunsTheDecodedInstruction
  rintro s i hs rfl
  exact step_of_quiet hs

/-- Settles O8: the test of the halt request comes before the poll and the fetch. -/
theorem haltStopsBeforeThePoll : Obligations.HaltStopsBeforeThePoll := by
  unfold Obligations.HaltStopsBeforeThePoll
  intro s hrun hhalt
  exact step_of_haltReq hrun hhalt

/-- Settles O47: the step of a quiet boundary is the opcode fetch and the report, whose address is one before the PC
the fetch left. -/
theorem unmappedOpcodesAreReportedAndSkipped : Obligations.UnmappedOpcodesAreReportedAndSkipped := by
  unfold Obligations.UnmappedOpcodesAreReportedAndSkipped
  intro op hop
  have hdecode : decodeOpcode op = .unmapped op := (decodeOpcode_eq_unmapped_iff op).mpr hop
  refine ⟨hdecode, exec_unmapped_eq op, fun s hs hfetched => ?_⟩
  have haddr : s.pc + 1 - 1 = s.pc := BitVec.add_sub_cancel s.pc 1
  rw [step_of_quiet hs, hfetched, hdecode, exec_unmapped_eq, afterReads_singleton, hfetched, haddr]
  rfl

end Sys2Proof.Machine
end

section
/-! SUPPORT. Where an instruction leaves PC, and what it leaves alone outside the registers, memory and the trace
(40_dispatcher.md R127, R129). The split over the instructions is made once, in `exec_ends`. -/

namespace Sys2Proof.Machine

/-- On the way from `s` an instruction has reached `t` with PC at `c`: the lines, the halt request, `run()` and the
parameters are as they were, and the host's answers are used up from the front. -/
structure Reached (s : State) (c : Addr) (t : State) : Prop where
  pc : t.pc = c
  nmi : t.nmi = s.nmi
  irq : t.irq = s.irq
  haltReq : t.haltReq = s.haltReq
  running : t.running = s.running
  config : t.config = s.config
  hostLoads : ∃ n, t.hostLoads = s.hostLoads.drop n

/-- `i` has run from `s` to `t`: PC is after the operand bytes, unless the rule of `i` sets it. -/
def Ends (i : Instr) (s t : State) : Prop :=
  ∃ c, Reached s c t ∧ (i ∉ controlInstrs → c = s.pcAfter i.mode)

section
variable {i : Instr} {s t : State} {c : Addr}

/-! ### One operation more -/

theorem Reached.refl (s : State) : Reached s s.pc s := ⟨rfl, rfl, rfl, rfl, rfl, rfl, 0, rfl⟩

theorem Reached.afterReads (h : Reached s c t) (as : List Addr) (d : Addr) : Reached s d (t.afterReads as d) := by
  obtain ⟨-, hnmi, hirq, hhalt, hrun, hconfig, n, hloads⟩ := h
  exact ⟨rfl, hnmi, hirq, hhalt, hrun, hconfig, n + as.length, by rw [afterReads_hostLoads, hloads, List.drop_drop]⟩

/-- A register, P, memory or the trace may be anything. -/
theorem Reached.withData (h : Reached s c t) {a x y sp p : Byte} {mem : Memory} {log : List Event} :
    Reached s c { t with a := a, x := x, y := y, sp := sp, p := p, mem := mem, log := log } :=
  ⟨h.pc, h.nmi, h.irq, h.haltReq, h.running, h.config, h.hostLoads⟩

theorem Reached.withPc (h : Reached s c t) (d : Addr) : Reached s d { t with pc := d } := h.afterReads [] d

theorem Reached.busRead (h : Reached s c t) (a : Addr) : Reached s c (busRead a t).2 := by
  rw [busRead_eq, h.pc]
  exact h.afterReads [a] c

theorem Reached.extraRead (h : Reached s c t) (a : Addr) : Reached s c (extraRead a t) := by
  rw [extraRead_eq, h.pc]
  exact h.afterReads _ c

theorem Reached.fetch (h : Reached s c t) : Reached s (c + 1) (fetch t).2 := by
  rw [fetch_eq, h.pc]
  exact h.afterReads [c] (c + 1)

theorem Reached.push (h : Reached s c t) (v : Byte) : Reached s c (push v t) := h.withData

theorem Reached.pull (h : Reached s c t) : Reached s c (pull t).2 := h.withData.busRead _

theorem Reached.applyOp (h : Reached s c t) (o : Operation) (v : Byte) (slot : RegName) :
    Reached s c (applyOp o v slot t) := by
  cases slot <;> exact h.withData

theorem Reached.readAt {e : Addr × State} (h : Reached s c e.2) (o : Operation) (slot : RegName) :
    Reached s c (readAt o slot e) := (h.busRead e.1).applyOp o _ slot

theorem Reached.writeAt {e : Addr × State} (h : Reached s c e.2) (r : RegName) : Reached s c (writeAt r e) :=
  h.withData

theorem Reached.modifyAt {e : Addr × State} (h : Reached s c e.2) (o : Operation) : Reached s c (modifyAt o e) :=
  (h.busRead e.1).withData

/-- The entry of BRK pushes and sets I, then loads PC (60_exceptions.md R408). -/
theorem Reached.softwareEntry (h : Reached s c t) (vec : Addr) :
    Reached s (interruptEntry vec .software t).pc (interruptEntry vec .software t) := by
  rw [interruptEntry_eq]
  exact h.withData.afterReads [vec, vec + 1] _

/-! ### The procedures that several instructions begin with -/

theorem fetch_reached (s : State) : Reached s (s.pc + 1) (fetch s).2 := (Reached.refl s).fetch

theorem ea_reached {e : Addr × State} {kind : AccessKind} {m : Mode} (he : e = (s.ea kind m, s.atAccess kind m)) :
    Reached s (s.pcAfter m) e.2 := by
  rw [he]
  exact (Reached.refl s).afterReads _ _

theorem eaInd_reached (s : State) : Reached s (s.pc + 2) (eaInd s).2 := by
  rw [eaInd_eq]
  exact (Reached.refl s).afterReads _ _

theorem branch_reached (s : State) (b : Bool) : Reached s (branch b s).pc (branch b s) := by
  rw [branch_eq]
  split
  · exact (Reached.refl s).afterReads _ _
  · exact (Reached.refl s).afterReads _ _

theorem pullDummyReads_reached (s : State) : Reached s s.pc (pullDummyReads s) := by
  rw [pullDummyReads_eq]
  exact (Reached.refl s).afterReads _ _

theorem implied_reached (s : State) : Reached s s.pc (implied s) := (Reached.refl s).extraRead s.pc

/-! ### The end of an instruction -/

theorem Reached.ends {m : Mode} (h : Reached s (s.pcAfter m) t) (hm : i.mode = m := by rfl) : Ends i s t :=
  ⟨_, h, fun _ => by rw [hm]⟩

theorem Reached.ends_of_no_operand (h : Reached s s.pc t) (hi : i.mode.operandBytes = 0 := by rfl) : Ends i s t :=
  ⟨_, h, fun _ => by simp [State.pcAfter, hi]⟩

theorem Reached.ends_of_control (h : Reached s c t) (hi : i ∈ controlInstrs := by decide) : Ends i s t :=
  ⟨_, h, fun hn => absurd hi hn⟩

end

/-- Every instruction, by its addressing mode and access kind. -/
theorem exec_ends (i : Instr) (s : State) : EndAlike (Ends i) (.next s) (exec i s) := by
  cases i with
  | adcImm | sbcImm | andImm | oraImm | eorImm | cmpImm | cpxImm | cpyImm | ldaImm | ldxImm | ldyImm =>
    exact Reached.ends (m := .imm) ((fetch_reached s).applyOp _ _ _)
  | adcZp | sbcZp | andZp | oraZp | eorZp | bitZp | cmpZp | cpxZp | cpyZp | ldaZp | ldxZp | ldyZp =>
    exact ((ea_reached (eaZp_eq .read s)).readAt _ _).ends
  | adcZpx | sbcZpx | andZpx | oraZpx | eorZpx | cmpZpx | ldaZpx | ldyZpx =>
    exact ((ea_reached (eaZpIndexed_X_eq .read s)).readAt _ _).ends
  | ldxZpy => exact ((ea_reached (eaZpIndexed_Y_eq .read s)).readAt _ _).ends
  | adcAbs | sbcAbs | andAbs | oraAbs | eorAbs | bitAbs | cmpAbs | cpxAbs | cpyAbs | ldaAbs | ldxAbs | ldyAbs =>
    exact ((ea_reached (eaAbs_eq .read s)).readAt _ _).ends
  | adcAbx | sbcAbx | andAbx | oraAbx | eorAbx | cmpAbx | ldaAbx | ldyAbx =>
    exact ((ea_reached (eaAbsIndexed_X_eq _ s)).readAt _ _).ends
  | adcAby | sbcAby | andAby | oraAby | eorAby | cmpAby | ldaAby | ldxAby =>
    exact ((ea_reached (eaAbsIndexed_Y_eq _ s)).readAt _ _).ends
  | adcIzx | sbcIzx | andIzx | oraIzx | eorIzx | cmpIzx | ldaIzx =>
    exact ((ea_reached (eaIzx_eq .read s)).readAt _ _).ends
  | adcIzy | sbcIzy | andIzy | oraIzy | eorIzy | cmpIzy | ldaIzy =>
    exact ((ea_reached (eaIzy_eq _ s)).readAt _ _).ends
  | staZp | stxZp | styZp => exact ((ea_reached (eaZp_eq .write s)).writeAt _).ends
  | staZpx | styZpx => exact ((ea_reached (eaZpIndexed_X_eq .write s)).writeAt _).ends
  | stxZpy => exact ((ea_reached (eaZpIndexed_Y_eq .write s)).writeAt _).ends
  | staAbs | stxAbs | styAbs => exact ((ea_reached (eaAbs_eq .write s)).writeAt _).ends
  | staAbx => exact ((ea_reached (eaAbsIndexed_X_eq _ s)).writeAt _).ends
  | staAby => exact ((ea_reached (eaAbsIndexed_Y_eq _ s)).writeAt _).ends
  | staIzx => exact ((ea_reached (eaIzx_eq .write s)).writeAt _).ends
  | staIzy => exact ((ea_reached (eaIzy_eq _ s)).writeAt _).ends
  | aslZp | lsrZp | rolZp | rorZp | incZp | decZp => exact ((ea_reached (eaZp_eq .modify s)).modifyAt _).ends
  | aslZpx | lsrZpx | rolZpx | rorZpx | incZpx | decZpx =>
    exact ((ea_reached (eaZpIndexed_X_eq .modify s)).modifyAt _).ends
  | aslAbs | lsrAbs | rolAbs | rorAbs | incAbs | decAbs => exact ((ea_reached (eaAbs_eq .modify s)).modifyAt _).ends
  | aslAbx | lsrAbx | rolAbx | rorAbx | incAbx | decAbx =>
    exact ((ea_reached (eaAbsIndexed_X_eq _ s)).modifyAt _).ends
  | aslAcc | lsrAcc | rolAcc | rorAcc => exact ((Reached.refl s).applyOp _ _ _).ends_of_no_operand
  | tax | tay | tsx | txa | tya | inx | iny | dex | dey => exact ((implied_reached s).applyOp _ _ _).ends_of_no_operand
  | pha | php => exact ((implied_reached s).push _).ends_of_no_operand
  | txs | clc | sec | cli | sei | clv | cld | sed => exact (implied_reached s).withData.ends_of_no_operand
  | nop => exact (implied_reached s).ends_of_no_operand
  | pla => exact ((pullDummyReads_reached s).pull.applyOp _ _ _).ends_of_no_operand
  | plp => exact (pullDummyReads_reached s).pull.withData.ends_of_no_operand
  | unmapped op => exact (Reached.refl s).withData.ends_of_no_operand
  | bcc | bcs | beq | bne | bmi | bpl | bvc | bvs => exact (branch_reached s _).ends_of_control
  | jmpAbs => exact ((ea_reached (eaAbs_eq .read s)).withPc _).ends_of_control
  | jmpInd => exact ((eaInd_reached s).withPc _).ends_of_control
  | jsr =>
    have hread := (fetch_reached s).extraRead (stackAddr s.sp)
    exact (((hread.push _).push _).fetch.withPc _).ends_of_control
  | rts =>
    have hpulled := (pullDummyReads_reached s).pull.pull
    exact (((hpulled.withPc _).extraRead _).withPc _).ends_of_control
  | rti =>
    have hpulled := (pullDummyReads_reached s).pull
    exact (hpulled.withData.pull.pull.withPc _).ends_of_control
  | brk => exact ((fetch_reached s).softwareEntry irqVector).ends_of_control

theorem ends_of_exec {i : Instr} {s t : State} (h : exec i s = .next t) : Ends i s t := by
  have hends := exec_ends i s
  rwa [h] at hends

/-- Settles O18: an instruction's length is its opcode byte and the operand bytes of its mode. -/
theorem pcAdvancesByTheInstructionLength : Obligations.PcAdvancesByTheInstructionLength := by
  unfold Obligations.PcAdvancesByTheInstructionLength
  intro i s t hi h
  obtain ⟨c, hreached, hc⟩ := ends_of_exec h
  rw [hreached.pc, hc hi, State.pcAfter, Instr.length_sub_one]

/-- Settles O21: what every instruction leaves alone, whether it sets PC or not. -/
theorem instructionsLeaveLinesAndParametersAlone : Obligations.InstructionsLeaveLinesAndParametersAlone := by
  unfold Obligations.InstructionsLeaveLinesAndParametersAlone
  intro i s t h
  obtain ⟨c, ⟨-, hnmi, hirq, hhalt, hrun, hconfig, hloads⟩, -⟩ := ends_of_exec h
  exact ⟨hnmi, hirq, hhalt, hrun, hconfig, hloads⟩

end Sys2Proof.Machine
end

section
/-! SUPPORT. What a store and a read-modify-write are: the write and the modify procedure at the effective address of the
instruction's own mode (41_addressing_modes.md R143 to R162), and what those procedures leave in memory. -/

namespace Sys2Proof.Machine

/-- Every store is the write procedure of its mode. -/
theorem exec_store_eq {i : Instr} (hi : i ∈ storeInstrs) (s : State) :
    ∃ r e, exec i s = .next (writeAt r e) ∧ e = (s.ea .write i.mode, s.atAccess .write i.mode) := by
  cases i with
  | staZp | stxZp | styZp => exact ⟨_, _, rfl, eaZp_eq _ s⟩
  | staZpx | styZpx => exact ⟨_, _, rfl, eaZpIndexed_X_eq _ s⟩
  | stxZpy => exact ⟨_, _, rfl, eaZpIndexed_Y_eq _ s⟩
  | staAbs | stxAbs | styAbs => exact ⟨_, _, rfl, eaAbs_eq _ s⟩
  | staAbx => exact ⟨_, _, rfl, eaAbsIndexed_X_eq _ s⟩
  | staAby => exact ⟨_, _, rfl, eaAbsIndexed_Y_eq _ s⟩
  | staIzx => exact ⟨_, _, rfl, eaIzx_eq _ s⟩
  | staIzy => exact ⟨_, _, rfl, eaIzy_eq _ s⟩
  | _ => simp [storeInstrs] at hi

/-- Every read-modify-write on memory is the modify procedure of its mode. -/
theorem exec_modify_eq {i : Instr} (hi : i ∈ modifyInstrs) (s : State) :
    ∃ o e, exec i s = .next (modifyAt o e) ∧ e = (s.ea .modify i.mode, s.atAccess .modify i.mode) := by
  cases i with
  | aslZp | lsrZp | rolZp | rorZp | incZp | decZp => exact ⟨_, _, rfl, eaZp_eq _ s⟩
  | aslZpx | lsrZpx | rolZpx | rorZpx | incZpx | decZpx => exact ⟨_, _, rfl, eaZpIndexed_X_eq _ s⟩
  | aslAbs | lsrAbs | rolAbs | rorAbs | incAbs | decAbs => exact ⟨_, _, rfl, eaAbs_eq _ s⟩
  | aslAbx | lsrAbx | rolAbx | rorAbx | incAbx | decAbx => exact ⟨_, _, rfl, eaAbsIndexed_X_eq _ s⟩
  | _ => simp [modifyInstrs] at hi

theorem stored_read_ne {s : State} {m : Mode} {a : Addr} (ha : a ≠ s.ea .write m) (v : Byte) :
    (s.stored m v).mem.read a = s.mem.read a :=
  read_write_ne ha _ _

/-- The dummy write and the write of the result go to one address (41_addressing_modes.md R144). -/
theorem modified_read_ne {s : State} {m : Mode} {a : Addr} (ha : a ≠ s.ea .modify m) (r q : Byte) :
    (s.modified m r q).mem.read a = s.mem.read a :=
  (read_write_ne ha _ _).trans (read_write_ne ha _ _)

/-- Settles O23: the next state is `State.stored` or `State.modified`, whose writes all go to the effective address. -/
theorem storesChangeOnlyTheirEffectiveAddress : Obligations.StoresChangeOnlyTheirEffectiveAddress := by
  unfold Obligations.StoresChangeOnlyTheirEffectiveAddress
  refine fun i s t h => ⟨fun hi a ha => ?_, fun hi a ha => ?_⟩
  · obtain ⟨r, e, hexec, he⟩ := exec_store_eq hi s
    rw [he, writeAt_eq] at hexec
    obtain rfl := Host.Outcome.next.inj (h.symm.trans hexec)
    exact stored_read_ne ha _
  · obtain ⟨o, e, hexec, he⟩ := exec_modify_eq hi s
    rw [he, modifyAt_eq] at hexec
    obtain rfl := Host.Outcome.next.inj (h.symm.trans hexec)
    exact modified_read_ne ha _ _

end Sys2Proof.Machine
end

section
/-! SUPPORT. The carry and overflow of binary addition (42_operations.md R182) as ranges of the unsigned and of the
signed sum. -/

namespace Sys2Proof.Machine

theorem sign_eq_decide_toNat (x : Byte) : x.getLsbD 7 = decide (128 ≤ x.toNat) :=
  (BitVec.msb_eq_getLsbD_last x).symm.trans (BitVec.msb_eq_decide x)

/-- The sum of two bytes and a carry leaves the signed range exactly when both bytes have one sign and the truncated
sum the other. -/
theorem sign_ne_iff_signed_sum_out_of_range (a v : Byte) (c : Bool) :
    (a.getLsbD 7 == v.getLsbD 7 &&
        (BitVec.ofNat 8 (a.toNat + v.toNat + c.toNat)).getLsbD 7 != a.getLsbD 7) = true ↔
      a.toInt + v.toInt + c.toNat < -128 ∨ 127 < a.toInt + v.toInt + c.toNat := by
  have ha : a.toNat < 256 := a.isLt
  have hv : v.toNat < 256 := v.isLt
  have hc : c.toNat ≤ 1 := c.toNat_le
  simp only [sign_eq_decide_toNat, BitVec.toNat_ofNat, BitVec.toInt_eq_toNat_cond, Bool.and_eq_true, beq_iff_eq,
    bne_iff_ne, ne_eq, decide_eq_decide]
  by_cases hsame : 128 ≤ a.toNat ↔ 128 ≤ v.toNat
  · simp only [hsame, true_and]
    omega
  · -- Bytes of different sign: their sum stays in range.
    simp only [hsame, false_and, false_iff]
    omega

/-! ### What binary ADC answers -/

section
variable {p : Byte} (hD : getFlag p .D = false) (v slot a : Byte)
include hD

theorem opAdc_fst_of_binary :
    (opAdc v slot a p).1 = BitVec.ofNat 8 (a.toNat + v.toNat + (getFlag p .C).toNat) := by
  simp [opAdc, hD]

theorem getFlag_opAdc_C_of_binary :
    getFlag (opAdc v slot a p).2 .C = decide (255 < a.toNat + v.toNat + (getFlag p .C).toNat) := by
  simp [opAdc, hD, getFlag_flagsNZ]

/-- V after ADC is the signed overflow (42_operations.md R182). -/
theorem getFlag_opAdc_V_of_binary :
    getFlag (opAdc v slot a p).2 .V = true ↔
      a.toInt + v.toInt + (getFlag p .C).toNat < -128 ∨ 127 < a.toInt + v.toInt + (getFlag p .C).toNat := by
  rw [← sign_ne_iff_signed_sum_out_of_range]
  simp [opAdc, hD, getFlag_flagsNZ]

/-- The output and C together are the 9-bit sum (42_operations.md R182). -/
theorem opAdc_toNat_add_carry :
    (opAdc v slot a p).1.toNat + (getFlag (opAdc v slot a p).2 .C).toNat * 256 =
      a.toNat + v.toNat + (getFlag p .C).toNat := by
  have ha : a.toNat < 256 := a.isLt
  have hv : v.toNat < 256 := v.isLt
  have hc : (getFlag p .C).toNat ≤ 1 := Bool.toNat_le _
  rw [opAdc_fst_of_binary hD, getFlag_opAdc_C_of_binary hD, BitVec.toNat_ofNat]
  by_cases hover : 255 < a.toNat + v.toNat + (getFlag p .C).toNat
  · simp only [hover, decide_true, Bool.toNat_true]
    omega
  · simp only [hover, decide_false, Bool.toNat_false]
    omega

end

/-- Settles O48: the sum is below 512, so C is its bit 8, and V is set exactly where the signs show the signed sum out
of range (`sign_ne_iff_signed_sum_out_of_range`). -/
theorem adcOverflowIsSignedOverflow : Obligations.AdcOverflowIsSignedOverflow := by
  unfold Obligations.AdcOverflowIsSignedOverflow
  exact fun v slot a _ hD => ⟨opAdc_toNat_add_carry hD v slot a, getFlag_opAdc_V_of_binary hD v slot a⟩

end Sys2Proof.Machine
end

section
/-! SUPPORT. The read instructions: each is one operation on the byte its mode reads, applied after the mode's accesses
(42_operations.md R180; 41_addressing_modes.md R141 to R161, R167). -/

namespace Sys2Proof.Machine

/-- The operation and the slot of the instructions that read an operand: the rules of 43_alu_instructions.md, and the
loads of 45_load_store_transfer.md R290 to R292. -/
def readOperation : Instr → Option (Operation × RegName)
  | .adcImm | .adcZp | .adcZpx | .adcAbs | .adcAbx | .adcAby | .adcIzx | .adcIzy => some (.adc, .A)
  | .sbcImm | .sbcZp | .sbcZpx | .sbcAbs | .sbcAbx | .sbcAby | .sbcIzx | .sbcIzy => some (.sbc, .A)
  | .andImm | .andZp | .andZpx | .andAbs | .andAbx | .andAby | .andIzx | .andIzy => some (.and, .A)
  | .oraImm | .oraZp | .oraZpx | .oraAbs | .oraAbx | .oraAby | .oraIzx | .oraIzy => some (.ora, .A)
  | .eorImm | .eorZp | .eorZpx | .eorAbs | .eorAbx | .eorAby | .eorIzx | .eorIzy => some (.eor, .A)
  | .bitZp | .bitAbs => some (.bit, .A)
  | .cmpImm | .cmpZp | .cmpZpx | .cmpAbs | .cmpAbx | .cmpAby | .cmpIzx | .cmpIzy => some (.cmp, .A)
  | .cpxImm | .cpxZp | .cpxAbs => some (.cmp, .X)
  | .cpyImm | .cpyZp | .cpyAbs => some (.cmp, .Y)
  | .ldaImm | .ldaZp | .ldaZpx | .ldaAbs | .ldaAbx | .ldaAby | .ldaIzx | .ldaIzy => some (.ldx, .A)
  | .ldxImm | .ldxZp | .ldxZpy | .ldxAbs | .ldxAby => some (.ldx, .X)
  | .ldyImm | .ldyZp | .ldyZpx | .ldyAbs | .ldyAbx => some (.ldx, .Y)
  | _ => none

/-- `s` after the operation on the byte that the mode reads. -/
def State.applied (s : State) (o : Operation) (slot : RegName) (m : Mode) : State :=
  applyOp o (s.operand .read m) slot (s.afterOperand .read m)

section
variable (o : Operation) (slot : RegName) (s : State)

theorem immRead_eq_applied : immRead o slot s = s.applied o slot .imm := immRead_eq o slot s

theorem zpRead_eq_applied : zpRead o slot s = s.applied o slot .zp := by
  rw [zpRead, eaZp_eq .read, readAt_eq, State.applied]

theorem zpIdxRead_X_eq_applied : zpIdxRead .X o slot s = s.applied o slot .zpx := by
  rw [zpIdxRead, eaZpIndexed_X_eq .read, readAt_eq, State.applied]

theorem zpIdxRead_Y_eq_applied : zpIdxRead .Y o slot s = s.applied o slot .zpy := by
  rw [zpIdxRead, eaZpIndexed_Y_eq .read, readAt_eq, State.applied]

theorem absRead_eq_applied : absRead o slot s = s.applied o slot .abs := by
  rw [absRead, eaAbs_eq .read, readAt_eq, State.applied]

theorem absIdxRead_X_eq_applied : absIdxRead .X o slot s = s.applied o slot .abx := by
  rw [absIdxRead, eaAbsIndexed_X_eq .read, readAt_eq, State.applied]

theorem absIdxRead_Y_eq_applied : absIdxRead .Y o slot s = s.applied o slot .aby := by
  rw [absIdxRead, eaAbsIndexed_Y_eq .read, readAt_eq, State.applied]

theorem izxRead_eq_applied : izxRead o slot s = s.applied o slot .izx := by
  rw [izxRead, eaIzx_eq .read, readAt_eq, State.applied]

theorem izyRead_eq_applied : izyRead o slot s = s.applied o slot .izy := by
  rw [izyRead, eaIzy_eq .read, readAt_eq, State.applied]

end

/-- Every read instruction applies its operation to the operand of its mode. -/
theorem exec_read_eq {i : Instr} {o : Operation} {slot : RegName} (hi : readOperation i = some (o, slot)) (s : State) :
    exec i s = .next (s.applied o slot i.mode) := by
  cases i with
  | adcImm | sbcImm | andImm | oraImm | eorImm | cmpImm | cpxImm | cpyImm | ldaImm | ldxImm | ldyImm =>
    cases hi
    exact congrArg Host.Outcome.next (immRead_eq_applied _ _ s)
  | adcZp | sbcZp | andZp | oraZp | eorZp | bitZp | cmpZp | cpxZp | cpyZp | ldaZp | ldxZp | ldyZp =>
    cases hi
    exact congrArg Host.Outcome.next (zpRead_eq_applied _ _ s)
  | adcZpx | sbcZpx | andZpx | oraZpx | eorZpx | cmpZpx | ldaZpx | ldyZpx =>
    cases hi
    exact congrArg Host.Outcome.next (zpIdxRead_X_eq_applied _ _ s)
  | ldxZpy =>
    cases hi
    exact congrArg Host.Outcome.next (zpIdxRead_Y_eq_applied _ _ s)
  | adcAbs | sbcAbs | andAbs | oraAbs | eorAbs | bitAbs | cmpAbs | cpxAbs | cpyAbs | ldaAbs | ldxAbs | ldyAbs =>
    cases hi
    exact congrArg Host.Outcome.next (absRead_eq_applied _ _ s)
  | adcAbx | sbcAbx | andAbx | oraAbx | eorAbx | cmpAbx | ldaAbx | ldyAbx =>
    cases hi
    exact congrArg Host.Outcome.next (absIdxRead_X_eq_applied _ _ s)
  | adcAby | sbcAby | andAby | oraAby | eorAby | cmpAby | ldaAby | ldxAby =>
    cases hi
    exact congrArg Host.Outcome.next (absIdxRead_Y_eq_applied _ _ s)
  | adcIzx | sbcIzx | andIzx | oraIzx | eorIzx | cmpIzx | ldaIzx =>
    cases hi
    exact congrArg Host.Outcome.next (izxRead_eq_applied _ _ s)
  | adcIzy | sbcIzy | andIzy | oraIzy | eorIzy | cmpIzy | ldaIzy =>
    cases hi
    exact congrArg Host.Outcome.next (izyRead_eq_applied _ _ s)
  | _ => cases hi

/-- A row of an "Encoding" line of a read instruction: the decoder gives the instruction, whose operation, slot and mode
are these. -/
abbrev IsReadForm (o : Operation) (slot : RegName) (f : Form) : Prop :=
  decodeOpcode f.1 = f.2.1 ∧ readOperation f.2.1 = some (o, slot) ∧ f.2.1.mode = f.2.2

/-- What the forms of a read instruction decode to and do, from what its operation does. -/
theorem readForms_spec {o : Operation} {slot : RegName} {forms : List Form}
    (hforms : ∀ f ∈ forms, IsReadForm o slot f) {next : Form → State → State}
    (hnext : ∀ f s, s.applied o slot f.2.2 = next f s) :
    ∀ f ∈ forms, decodeOpcode f.1 = f.2.1 ∧ ∀ s, exec f.2.1 s = .next (next f s) := by
  intro f hf
  obtain ⟨hdecode, hop, hmode⟩ := hforms f hf
  refine ⟨hdecode, fun s => ?_⟩
  rw [exec_read_eq hop, hmode, hnext]

end Sys2Proof.Machine
end

section
/-! SUPPORT. What the operations of 43_alu_instructions.md leave, as whole states (42_operations.md R181 to R187, R192,
R193), and the ADC of the complement as a difference (R184). -/

namespace Sys2Proof.Machine

/-! ### Sums and differences -/

/-- The sum that SBC forms (42_operations.md R184) is 256 above the difference with borrow. -/
theorem sum_not_eq_difference_add (a v : Byte) (c : Bool) :
    ((a.toNat + (~~~v).toNat + c.toNat : Nat) : Int) = (a.toNat : Int) - v.toNat - (if c then 0 else 1) + 256 := by
  have hv : v.toNat < 256 := v.isLt
  rw [BitVec.toNat_not]
  cases c
  · simp only [Bool.toNat_false, Bool.false_eq_true, if_false]
    omega
  · simp only [Bool.toNat_true, if_true]
    omega

theorem ofNat_sum_not (a v : Byte) (c : Bool) :
    BitVec.ofNat 8 (a.toNat + (~~~v).toNat + c.toNat) =
      BitVec.ofInt 8 ((a.toNat : Int) - v.toNat - (if c then 0 else 1)) := by
  rw [← BitVec.ofInt_natCast, sum_not_eq_difference_add, BitVec.ofInt_add]
  exact BitVec.add_zero _

/-- The carry out of that sum is no borrow. -/
theorem carry_sum_not (a v : Byte) (c : Bool) :
    decide (a.toNat + (~~~v).toNat + c.toNat > 255) =
      decide (0 ≤ (a.toNat : Int) - v.toNat - (if c then 0 else 1)) := by
  have hsum := sum_not_eq_difference_add a v c
  rw [decide_eq_decide]
  omega

/-- As signed numbers, the complement and the carry add up to minus the input, less the borrow. -/
theorem toInt_not_add_carry (v : Byte) (c : Bool) :
    (~~~v).toInt + c.toNat = -v.toInt - (if c then 0 else 1) := by
  have hv : v.toNat < 256 := v.isLt
  simp only [BitVec.toInt_eq_toNat_cond, BitVec.toNat_not]
  cases c
  · simp only [Bool.toNat_false, Bool.false_eq_true, if_false]
    omega
  · simp only [Bool.toNat_true, if_true]
    omega

/-- The sign test of ADC, on the complement and the result of that sum, is the overflow of the signed difference. -/
theorem overflow_sum_not (a v : Byte) (c : Bool) :
    (a.getLsbD 7 == (~~~v).getLsbD 7 &&
        (BitVec.ofInt 8 ((a.toNat : Int) - v.toNat - (if c then 0 else 1))).getLsbD 7 != a.getLsbD 7) =
      decide (a.toInt - v.toInt - (if c then 0 else 1) < -128 ∨ 127 < a.toInt - v.toInt - (if c then 0 else 1)) := by
  have hsigned : a.toInt + (~~~v).toInt + c.toNat = a.toInt - v.toInt - (if c then 0 else 1) := by
    rw [Int.add_assoc, toInt_not_add_carry]
    omega
  rw [Bool.eq_iff_iff, decide_eq_true_iff, ← ofNat_sum_not, sign_ne_iff_signed_sum_out_of_range, hsigned]

/-! ### Operations applied -/

theorem setReg_getReg (s : State) (r : RegName) : s.setReg r (s.getReg r) = s := by
  cases r <;> rfl

/-- ADC of any byte, with the output and each flag as in 42_operations.md R182; the no-op of R183 when D is set. -/
theorem applyOp_adc (v : Byte) (s : State) :
    applyOp .adc v .A s =
      let sum := s.a.toNat + v.toNat + (getFlag s.p .C).toNat
      let r : Byte := BitVec.ofNat 8 sum
      if getFlag s.p .D then s
      else { s with
        a := r
        p := setFlags s.p [(.C, decide (sum > 255)),
          (.V, s.a.getLsbD 7 == v.getLsbD 7 && r.getLsbD 7 != s.a.getLsbD 7), (.N, r.getLsbD 7), (.Z, r == 0)] } := by
  simp only [applyOp, Operation.apply, opAdc]
  split
  · rfl
  · rfl

/-- SBC is ADC of the complement (42_operations.md R184), read as a difference with borrow. -/
theorem applyOp_sbc (v : Byte) (s : State) :
    applyOp .sbc v .A s =
      let borrow : Int := if getFlag s.p .C then 0 else 1
      let r : Byte := BitVec.ofInt 8 ((s.a.toNat : Int) - v.toNat - borrow)
      let signed : Int := s.a.toInt - v.toInt - borrow
      if getFlag s.p .D then s
      else { s with
        a := r
        p := setFlags s.p [(.C, decide (0 ≤ (s.a.toNat : Int) - v.toNat - borrow)),
          (.V, decide (signed < -128 ∨ 127 < signed)), (.N, r.getLsbD 7), (.Z, r == 0)] } := by
  have hcomplement : applyOp .sbc v .A s = applyOp .adc (~~~v) .A s := rfl
  simp only [hcomplement, applyOp_adc, carry_sum_not, ofNat_sum_not, overflow_sum_not]

/-- The comparison gives the slot back, and the difference is zero exactly for equal bytes. -/
theorem applyOp_cmp (v : Byte) (slot : RegName) (s : State) :
    applyOp .cmp v slot s = { s with
      p := setFlags s.p [(.C, decide ((s.getReg slot).toNat ≥ v.toNat)), (.N, (s.getReg slot - v).getLsbD 7),
        (.Z, s.getReg slot == v)] } := by
  have hzero : (s.getReg slot - v == 0) = (s.getReg slot == v) := by
    rw [Bool.eq_iff_iff, beq_iff_eq, beq_iff_eq, sub_eq_zero]
  simp only [applyOp, Operation.apply, opCmp, setReg_getReg, flagsNZ, hzero]
  rfl

/-! ### The statements -/

/-- Settles O25: each form applies ADC (`applyOp_adc`) after the accesses of its mode. -/
theorem adcAddsWithCarry : Obligations.AdcAddsWithCarry := by
  unfold Obligations.AdcAddsWithCarry
  exact readForms_spec (o := .adc) (slot := .A) (by decide) fun _ _ => applyOp_adc _ _

/-- Settles O26: adding the complement is subtracting with borrow (`applyOp_sbc`). -/
theorem sbcSubtractsWithBorrow : Obligations.SbcSubtractsWithBorrow := by
  unfold Obligations.SbcSubtractsWithBorrow
  exact readForms_spec (o := .sbc) (slot := .A) (by decide) fun _ _ => applyOp_sbc _ _

/-- Settles O27: once the operand is read, A and then N and Z are assigned as the operations' definitions say. -/
theorem logicInstructionsCombineWithA : Obligations.LogicInstructionsCombineWithA := by
  unfold Obligations.LogicInstructionsCombineWithA
  exact ⟨readForms_spec (o := .and) (slot := .A) (by decide) fun _ _ => rfl,
    readForms_spec (o := .ora) (slot := .A) (by decide) fun _ _ => rfl,
    readForms_spec (o := .eor) (slot := .A) (by decide) fun _ _ => rfl⟩

/-- Settles O28: BIT writes its slot A back as it was, and N, V and Z in this order. -/
theorem bitTestsWithoutWritingA : Obligations.BitTestsWithoutWritingA := by
  unfold Obligations.BitTestsWithoutWritingA
  exact readForms_spec (o := .bit) (slot := .A) (by decide) fun _ _ => rfl

/-- Settles O29: the three instructions are one operation on three slots (`applyOp_cmp`). -/
theorem comparesSetCarryZeroNegative : Obligations.ComparesSetCarryZeroNegative := by
  unfold Obligations.ComparesSetCarryZeroNegative
  exact ⟨readForms_spec (o := .cmp) (slot := .A) (by decide) fun _ _ => applyOp_cmp _ .A _,
    readForms_spec (o := .cmp) (slot := .X) (by decide) fun _ _ => applyOp_cmp _ .X _,
    readForms_spec (o := .cmp) (slot := .Y) (by decide) fun _ _ => applyOp_cmp _ .Y _⟩

end Sys2Proof.Machine
end

section
/-! SUPPORT. The shift, rotate, increment and decrement instructions: those on memory are one operation on the byte their
mode reads, through the modify procedure (41_addressing_modes.md R144 to R156); those on a register are one operation on
that register (41_addressing_modes.md R163, R166). -/

namespace Sys2Proof.Machine

/-! ### On memory -/

/-- The operation of the instructions that modify memory (44_rmw_instructions.md R260 to R265). -/
def modifyOperation : Instr → Option Operation
  | .aslZp | .aslZpx | .aslAbs | .aslAbx => some .asl
  | .lsrZp | .lsrZpx | .lsrAbs | .lsrAbx => some .lsr
  | .rolZp | .rolZpx | .rolAbs | .rolAbx => some .rol
  | .rorZp | .rorZpx | .rorAbs | .rorAbx => some .ror
  | .incZp | .incZpx | .incAbs | .incAbx => some .inc
  | .decZp | .decZpx | .decAbs | .decAbx => some .dec
  | _ => none

/-- `s` after the modify procedure with an operation, whose input is the byte that the mode reads. -/
def State.modifiedBy (s : State) (o : Operation) (m : Mode) : State :=
  let r := o.apply (s.operand .modify m) (s.operand .modify m) s.a s.p
  s.modified m r.1 r.2

section
variable (o : Operation) (s : State)

theorem zpModify_eq_modifiedBy : zpModify o s = s.modifiedBy o .zp := by
  rw [zpModify, eaZp_eq .modify, modifyAt_eq, State.modifiedBy]

theorem zpIdxModify_X_eq_modifiedBy : zpIdxModify .X o s = s.modifiedBy o .zpx := by
  rw [zpIdxModify, eaZpIndexed_X_eq .modify, modifyAt_eq, State.modifiedBy]

theorem absModify_eq_modifiedBy : absModify o s = s.modifiedBy o .abs := by
  rw [absModify, eaAbs_eq .modify, modifyAt_eq, State.modifiedBy]

theorem absIdxModify_X_eq_modifiedBy : absIdxModify .X o s = s.modifiedBy o .abx := by
  rw [absIdxModify, eaAbsIndexed_X_eq .modify, modifyAt_eq, State.modifiedBy]

end

/-- Every instruction that modifies memory applies its operation to the byte its mode reads. -/
theorem exec_eq_modifiedBy {i : Instr} {o : Operation} (hi : modifyOperation i = some o) (s : State) :
    exec i s = .next (s.modifiedBy o i.mode) := by
  cases i with
  | aslZp | lsrZp | rolZp | rorZp | incZp | decZp =>
    cases hi
    exact congrArg Host.Outcome.next (zpModify_eq_modifiedBy _ s)
  | aslZpx | lsrZpx | rolZpx | rorZpx | incZpx | decZpx =>
    cases hi
    exact congrArg Host.Outcome.next (zpIdxModify_X_eq_modifiedBy _ s)
  | aslAbs | lsrAbs | rolAbs | rorAbs | incAbs | decAbs =>
    cases hi
    exact congrArg Host.Outcome.next (absModify_eq_modifiedBy _ s)
  | aslAbx | lsrAbx | rolAbx | rorAbx | incAbx | decAbx =>
    cases hi
    exact congrArg Host.Outcome.next (absIdxModify_X_eq_modifiedBy _ s)
  | _ => cases hi

/-- A row of an "Encoding" line of a read-modify-write instruction: the decoder gives the instruction, whose operation
and mode are these. -/
abbrev IsModifyForm (o : Operation) (f : Form) : Prop :=
  decodeOpcode f.1 = f.2.1 ∧ modifyOperation f.2.1 = some o ∧ f.2.1.mode = f.2.2

/-- What the forms of a read-modify-write instruction decode to and do, from what its operation does. -/
theorem modifyForms_spec {o : Operation} {forms : List Form} (hforms : ∀ f ∈ forms, IsModifyForm o f)
    {next : Form → State → State} (hnext : ∀ f s, s.modifiedBy o f.2.2 = next f s) :
    ∀ f ∈ forms, decodeOpcode f.1 = f.2.1 ∧ ∀ s, exec f.2.1 s = .next (next f s) := by
  intro f hf
  obtain ⟨hdecode, hop, hmode⟩ := hforms f hf
  refine ⟨hdecode, fun s => ?_⟩
  rw [exec_eq_modifiedBy hop, hmode, hnext]

/-! ### On a register -/

/-- The optional dummy read of an implied instruction leaves the register it works on (41_addressing_modes.md R166). -/
theorem applyOp_getReg_implied (o : Operation) (slot : RegName) (s : State) :
    applyOp o ((implied s).getReg slot) slot (implied s) =
      applyOp o (s.getReg slot) slot (s.afterReads (s.extra [s.pc]) s.pc) := by
  rw [implied_eq]
  cases slot <;> rfl

/-! ### The statements -/

/-- Settles O30: each memory form is the modify procedure with ASL or LSR (`modifyForms_spec`), and the accumulator form
applies the same operation to A; both assign C, N and Z in the order of R188 and R189. -/
theorem shiftsMoveOneBitIntoCarry : Obligations.ShiftsMoveOneBitIntoCarry := by
  unfold Obligations.ShiftsMoveOneBitIntoCarry
  exact ⟨modifyForms_spec (o := .asl) (by decide) fun _ _ => rfl, ⟨rfl, fun _ => rfl⟩,
    modifyForms_spec (o := .lsr) (by decide) fun _ _ => rfl, ⟨rfl, fun _ => rfl⟩⟩

/-- Settles O31: as the shifts; the operation reads C before it assigns it (R190, R191). -/
theorem rotatesGoThroughCarry : Obligations.RotatesGoThroughCarry := by
  unfold Obligations.RotatesGoThroughCarry
  exact ⟨modifyForms_spec (o := .rol) (by decide) fun _ _ => rfl, ⟨rfl, fun _ => rfl⟩,
    modifyForms_spec (o := .ror) (by decide) fun _ _ => rfl, ⟨rfl, fun _ => rfl⟩⟩

/-- Settles O32: each form is the modify procedure with INC or DEC (`modifyForms_spec`). -/
theorem incAndDecChangeMemoryByOne : Obligations.IncAndDecChangeMemoryByOne := by
  unfold Obligations.IncAndDecChangeMemoryByOne
  exact ⟨modifyForms_spec (o := .inc) (by decide) fun _ _ => rfl,
    modifyForms_spec (o := .dec) (by decide) fun _ _ => rfl⟩

/-- Settles O33: each is INC or DEC of its own register, after the optional dummy read (`applyOp_getReg_implied`). -/
theorem indexStepsChangeOneRegisterByOne : Obligations.IndexStepsChangeOneRegisterByOne := by
  unfold Obligations.IndexStepsChangeOneRegisterByOne
  exact ⟨⟨rfl, fun s => congrArg Host.Outcome.next (applyOp_getReg_implied .inc .X s)⟩,
    ⟨rfl, fun s => congrArg Host.Outcome.next (applyOp_getReg_implied .inc .Y s)⟩,
    ⟨rfl, fun s => congrArg Host.Outcome.next (applyOp_getReg_implied .dec .X s)⟩,
    ⟨rfl, fun s => congrArg Host.Outcome.next (applyOp_getReg_implied .dec .Y s)⟩⟩

end Sys2Proof.Machine
end

section
/-! SUPPORT. The load, store and transfer instructions (45_load_store_transfer.md R290 to R301): loads and flag-setting
transfers are LDx (42_operations.md R196), on an operand or on a register; stores are the write procedure of their mode
with the register they name. -/

namespace Sys2Proof.Machine

/-- LDx assigns the slot its input, then N and Z. -/
theorem applyOp_ldx (v : Byte) (slot : RegName) (s : State) :
    applyOp .ldx v slot s = { s.setReg slot v with p := setFlags s.p [(.N, v.getLsbD 7), (.Z, v == 0)] } := rfl

/-! ### Stores -/

/-- The register each store writes (R293 to R295). -/
def storeSource : Instr → Option RegName
  | .staZp | .staZpx | .staAbs | .staAbx | .staAby | .staIzx | .staIzy => some .A
  | .stxZp | .stxZpy | .stxAbs => some .X
  | .styZp | .styZpx | .styAbs => some .Y
  | _ => none

/-- A write procedure whose address is the effective address of the mode stores its register there. -/
theorem writeAt_eq_stored {s : State} {m : Mode} {e : Addr × State}
    (he : e = (s.ea .write m, s.atAccess .write m)) (r : RegName) : writeAt r e = s.stored m (s.getReg r) := by
  rw [he, writeAt_eq]

/-- Every store writes its register at the effective address of its mode. -/
theorem exec_eq_stored {i : Instr} {r : RegName} (hi : storeSource i = some r) (s : State) :
    exec i s = .next (s.stored i.mode (s.getReg r)) := by
  cases i with
  | staZp | stxZp | styZp =>
    cases hi
    exact congrArg Host.Outcome.next (writeAt_eq_stored (eaZp_eq .write s) _)
  | staZpx | styZpx =>
    cases hi
    exact congrArg Host.Outcome.next (writeAt_eq_stored (eaZpIndexed_X_eq .write s) _)
  | stxZpy =>
    cases hi
    exact congrArg Host.Outcome.next (writeAt_eq_stored (eaZpIndexed_Y_eq .write s) _)
  | staAbs | stxAbs | styAbs =>
    cases hi
    exact congrArg Host.Outcome.next (writeAt_eq_stored (eaAbs_eq .write s) _)
  | staAbx =>
    cases hi
    exact congrArg Host.Outcome.next (writeAt_eq_stored (eaAbsIndexed_X_eq .write s) _)
  | staAby =>
    cases hi
    exact congrArg Host.Outcome.next (writeAt_eq_stored (eaAbsIndexed_Y_eq .write s) _)
  | staIzx =>
    cases hi
    exact congrArg Host.Outcome.next (writeAt_eq_stored (eaIzx_eq .write s) _)
  | staIzy =>
    cases hi
    exact congrArg Host.Outcome.next (writeAt_eq_stored (eaIzy_eq .write s) _)
  | _ => cases hi

/-- A row of an "Encoding" line of a store: the decoder gives the instruction, whose register and mode are these. -/
abbrev IsStoreForm (r : RegName) (f : Form) : Prop :=
  decodeOpcode f.1 = f.2.1 ∧ storeSource f.2.1 = some r ∧ f.2.1.mode = f.2.2

/-- What the forms of a store decode to and do. -/
theorem storeForms_spec {r : RegName} {forms : List Form} (hforms : ∀ f ∈ forms, IsStoreForm r f) :
    ∀ f ∈ forms, decodeOpcode f.1 = f.2.1 ∧ ∀ s, exec f.2.1 s = .next (s.stored f.2.2 (s.getReg r)) := by
  intro f hf
  obtain ⟨hdecode, hsource, hmode⟩ := hforms f hf
  refine ⟨hdecode, fun s => ?_⟩
  rw [exec_eq_stored hsource, hmode]

/-! ### Transfers -/

/-- LDx of a register after the optional dummy read. The source is a function of the state, since S has no
`RegName`. -/
theorem applyOp_ldx_implied (source : State → Byte) (slot : RegName) (s : State) :
    applyOp .ldx (source (implied s)) slot (implied s) =
      let t := s.afterReads (s.extra [s.pc]) s.pc
      { t.setReg slot (source t) with p := setFlags t.p [(.N, (source t).getLsbD 7), (.Z, source t == 0)] } := by
  rw [implied_eq, applyOp_ldx]

/-- TXS is the assignment alone (R301). -/
theorem exec_txs (s : State) : exec .txs s = .next { s.afterReads (s.extra [s.pc]) s.pc with sp := s.x } := by
  have hexec : exec .txs s = .next { implied s with sp := (implied s).x } := rfl
  rw [hexec, implied_eq, afterReads_x]

/-! ### The statements -/

/-- Settles O34: the three instructions are LDx on three slots (`applyOp_ldx`), after the accesses of the mode. -/
theorem loadsCopyTheOperand : Obligations.LoadsCopyTheOperand := by
  unfold Obligations.LoadsCopyTheOperand
  exact ⟨readForms_spec (o := .ldx) (slot := .A) (by decide) fun _ _ => applyOp_ldx _ .A _,
    readForms_spec (o := .ldx) (slot := .X) (by decide) fun _ _ => applyOp_ldx _ .X _,
    readForms_spec (o := .ldx) (slot := .Y) (by decide) fun _ _ => applyOp_ldx _ .Y _⟩

/-- Settles O35: each form is the write procedure of its mode with its register (`storeForms_spec`). -/
theorem storesWriteTheRegisterAtTheEffectiveAddress :
    Obligations.StoresWriteTheRegisterAtTheEffectiveAddress := by
  unfold Obligations.StoresWriteTheRegisterAtTheEffectiveAddress
  exact ⟨storeForms_spec (r := .A) (by decide), storeForms_spec (r := .X) (by decide),
    storeForms_spec (r := .Y) (by decide)⟩

/-- Settles O36: five transfers are LDx of their source after the optional dummy read (`applyOp_ldx_implied`), and TXS
assigns S and no flag (`exec_txs`). -/
theorem transfersCopyARegister : Obligations.TransfersCopyARegister := by
  unfold Obligations.TransfersCopyARegister
  exact ⟨⟨rfl, fun s => congrArg Host.Outcome.next (applyOp_ldx_implied State.a .X s)⟩,
    ⟨rfl, fun s => congrArg Host.Outcome.next (applyOp_ldx_implied State.a .Y s)⟩,
    ⟨rfl, fun s => congrArg Host.Outcome.next (applyOp_ldx_implied State.sp .X s)⟩,
    ⟨rfl, fun s => congrArg Host.Outcome.next (applyOp_ldx_implied State.x .A s)⟩,
    ⟨rfl, fun s => congrArg Host.Outcome.next (applyOp_ldx_implied State.y .A s)⟩,
    ⟨rfl, exec_txs⟩⟩

end Sys2Proof.Machine
end

section
/-! SUPPORT. The stack (46_stack_unit.md R320 to R322): the four stack instructions in closed form, the bytes the pushing
instructions store, and a row of pushes, which stores one byte below the other in page 1. -/

namespace Sys2Proof.Machine

/-! ### The stack instructions -/

theorem exec_pha_eq (s : State) : exec .pha s = .next (push s.a (s.afterReads (s.extra [s.pc]) s.pc)) := by
  simp only [exec, execPha, extraRead_eq, afterReads_a]

/-- The pull of a pulling instruction, after its dummy reads (R325, R326). -/
theorem pull_pullDummyReads_eq (s : State) :
    pull (pullDummyReads s) =
      (s.answer (s.extra [s.pc, stackAddr s.sp]).length (stackAddr (s.sp + 1)),
        { s.afterReads (s.extra [s.pc, stackAddr s.sp] ++ [stackAddr (s.sp + 1)]) s.pc with sp := s.sp + 1 }) := by
  rw [pullDummyReads_eq]
  exact pull_afterReads s _ s.pc s.sp s.p

/-- Settles O37: each is one `push` after the optional dummy read (`exec_pha_eq`, `exec_php_eq`). -/
theorem phaAndPhpPushOneByte : Obligations.PhaAndPhpPushOneByte := by
  unfold Obligations.PhaAndPhpPushOneByte
  exact ⟨⟨rfl, exec_pha_eq⟩, ⟨rfl, exec_php_eq⟩⟩

/-- Settles O38: LDx into A (`applyOp_ldx`) of the byte pulled after the dummy reads. -/
theorem plaPullsAThroughLdx : Obligations.PlaPullsAThroughLdx := by
  unfold Obligations.PlaPullsAThroughLdx
  refine ⟨rfl, fun s => ?_⟩
  simp only [exec, execPla, pull_pullDummyReads_eq, applyOp_ldx]
  rfl

/-- Settles O39: the closed form of PLP, whose forcing is `pulledP`. -/
theorem plpPullsPWithItsForcing : Obligations.PlpPullsPWithItsForcing := by
  unfold Obligations.PlpPullsPWithItsForcing
  exact ⟨rfl, exec_plp_eq⟩

/-! ### What the pushing instructions store -/

/-- Between the pushes of JSR and its end, and before them, there are loads only (47_control_transfer.md R351). -/
theorem mem_of_exec_jsr {s t : State} (h : exec .jsr s = .next t) :
    t.mem = (s.mem.write (stackAddr s.sp) (hiByte (s.pc + 1))).write (stackAddr (s.sp - 1)) (loByte (s.pc + 1)) := by
  cases h
  simp only [fetch_eq, extraRead_afterReads, push_mem, push_sp, push_pc, afterReads_mem, afterReads_sp, afterReads_pc]

/-- The three pushes of BRK start at the S it finds (60_exceptions.md R408, R411). -/
theorem mem_of_exec_brk {s t : State} (h : exec .brk s = .next t) :
    t.mem = ((s.mem.write (stackAddr s.sp) (hiByte (s.pc + 1))).write (stackAddr (s.sp - 1)) (loByte (s.pc + 1))).write
      (stackAddr (s.sp - 2)) (softwarePushedP s.p) := by
  cases h
  rw [fetch_eq, interruptEntry_eq]
  rfl

/-- Settles O24: each address left alone differs from the one of every push (`read_write_ne`). -/
theorem pushesChangeOnlyTheirStackBytes : Obligations.PushesChangeOnlyTheirStackBytes := by
  unfold Obligations.PushesChangeOnlyTheirStackBytes
  intro s t
  refine ⟨fun h a h0 => ?_, fun h a h0 h1 => ?_, fun h a h0 h1 h2 => ?_⟩
  · rw [exec_pha_eq, exec_php_eq] at h
    rcases h with h | h
    · cases h
      exact read_write_ne h0 _ _
    · cases h
      exact read_write_ne h0 _ _
  · rw [mem_of_exec_jsr h, read_write_ne h1, read_write_ne h0]
  · rw [mem_of_exec_brk h, read_write_ne h2, read_write_ne h1, read_write_ne h0]

/-! ### A row of pushes -/

/-- The bytes of a list pushed one after the other, the first one first. -/
def pushAll (vs : List Byte) (s : State) : State := vs.foldl (fun u v => push v u) s

theorem pushAll_concat (vs : List Byte) (v : Byte) (s : State) : pushAll (vs ++ [v]) s = push v (pushAll vs s) :=
  List.foldl_concat ..

theorem pushAll_sp (vs : List Byte) (s : State) : (pushAll vs s).sp = s.sp - BitVec.ofNat 8 vs.length := by
  induction vs using List.reverseRecOn with
  | nil => exact (BitVec.sub_zero s.sp).symm
  | append_singleton vs v ih =>
    rw [pushAll_concat, push_sp, ih, List.length_append, List.length_singleton, BitVec.ofNat_add, BitVec.sub_sub]
    rfl

theorem pushAll_wf {s : State} (hwf : s.mem.wf = true) (vs : List Byte) : (pushAll vs s).mem.wf = true := by
  induction vs using List.reverseRecOn with
  | nil => exact hwf
  | append_singleton vs v ih =>
    rw [pushAll_concat, push_mem]
    exact write_wf ih _ _

theorem stackAddr_injective : Function.Injective stackAddr := fun p q h => by
  rw [← loByte_cat 0x01 p, ← loByte_cat 0x01 q]
  exact congrArg loByte h

/-- The stack addresses of the first 256 pushes are all different. -/
theorem stackAddr_sub_ne (sp : Byte) {j k : Nat} (hj : j < k) (hk : k < 256) :
    stackAddr (sp - BitVec.ofNat 8 j) ≠ stackAddr (sp - BitVec.ofNat 8 k) := by
  intro h
  have hsub := stackAddr_injective h
  bv_omega

/-- After at most 256 pushes every byte is still where its push stored it. -/
theorem read_pushAll {s : State} (hwf : s.mem.wf = true) {vs : List Byte} (hlen : vs.length ≤ 256) {k : Nat}
    (hk : k < vs.length) : (pushAll vs s).mem.read (stackAddr (s.sp - BitVec.ofNat 8 k)) = vs.getD k 0 := by
  induction vs using List.reverseRecOn with
  | nil => exact absurd hk (Nat.not_lt_zero k)
  | append_singleton vs v ih =>
    rw [List.length_append, List.length_singleton] at hlen hk
    rw [pushAll_concat, push_mem, pushAll_sp]
    by_cases hlast : k = vs.length
    · rw [hlast, read_write_same (pushAll_wf hwf vs)]
      simp
    · have hold : k < vs.length := by omega
      rw [read_write_ne (stackAddr_sub_ne s.sp hold (by omega)), ih (by omega) hold, List.getD_append _ _ _ _ hold]

/-- Page 1 from its top down (20_memory.md R64). -/
theorem stackAddr_top_sub {k : Nat} (hk : k < 256) :
    stackAddr (0xFF - BitVec.ofNat 8 k) = 0x01FF - BitVec.ofNat 16 k := by
  apply BitVec.eq_of_toNat_eq
  rw [stackAddr, cat_toNat]
  bv_omega

/-- Settles O53: the row of 256 pushes by `pushAll_sp` and `read_pushAll`; the single wraps are S - 1 and S + 1. -/
theorem stackWrapsInsidePageOne : Obligations.StackWrapsInsidePageOne := by
  unfold Obligations.StackWrapsInsidePageOne
  refine ⟨fun s vs hwf hsp hlen => ⟨?_, fun k hk => ?_⟩, fun s v hsp => ?_, fun s hsp => ?_⟩
  · have hend := pushAll_sp vs s
    rw [hsp, hlen] at hend
    exact hend
  · have hread := read_pushAll hwf hlen.le (hlen ▸ hk)
    rw [hsp, stackAddr_top_sub hk] at hread
    exact hread
  · rw [push_sp, push_mem, hsp]
    exact ⟨rfl, rfl⟩
  · rw [pull_value, pull_sp, loadByte_eq_answer, hsp]
    exact ⟨rfl, rfl⟩

end Sys2Proof.Machine
end

section
/-! SUPPORT. Branches, jumps, subroutine calls and returns, BRK and RTI in closed form (47_control_transfer.md). -/

namespace Sys2Proof.Machine

/-! ### Branches and jumps -/

/-- Every branch is `Branch(cond)` with the condition the table of R340 gives it. -/
theorem exec_branch_eq {i : Instr} {s : State} {c : Bool} (hi : branchCondition i s.p = some c) :
    exec i s = .next (if c then s.afterReads s.takenReads s.branchTarget else s.afterReads [s.pc] (s.pc + 1)) := by
  rw [← branch_eq]
  cases i with
  | bcs | beq | bmi | bvs =>
    cases hi
    rw [beq_true]
    rfl
  | bcc | bne | bpl | bvc =>
    cases hi
    rw [beq_false]
    rfl
  | _ => cases hi

/-- Settles O40: each row's condition is the one of its branch in `branchCondition`, and every branch is in closed
form by `exec_branch_eq`. -/
theorem branchesGoWhereTheirFlagSays : Obligations.BranchesGoWhereTheirFlagSays := by
  unfold Obligations.BranchesGoWhereTheirFlagSays
  intro f hf
  have hrow : decodeOpcode f.1 = f.2.1 ∧ ∀ p, branchCondition f.2.1 p = some (getFlag p f.2.2.1 == f.2.2.2) := by
    revert f
    simp only [List.forall_mem_cons]
    exact ⟨⟨rfl, fun _ => rfl⟩, ⟨rfl, fun _ => rfl⟩, ⟨rfl, fun _ => rfl⟩, ⟨rfl, fun _ => rfl⟩, ⟨rfl, fun _ => rfl⟩,
      ⟨rfl, fun _ => rfl⟩, ⟨rfl, fun _ => rfl⟩, ⟨rfl, fun _ => rfl⟩, List.forall_mem_nil _⟩
  obtain ⟨hdecode, hcond⟩ := hrow
  refine ⟨hdecode, fun s => ?_⟩
  rw [exec_branch_eq (hcond s.p)]
  simp only [beq_iff_eq]

theorem exec_jmpAbs_eq (s : State) :
    exec .jmpAbs s = .next (s.afterReads [s.pc, s.pc + 1] s.absOperand) := by
  simp only [exec, execJmpAbs, eaAbs_eq .read]
  rfl

/-- The second byte of the target comes from the page of the first (41_addressing_modes.md R165). -/
theorem exec_jmpInd_eq (s : State) :
    exec .jmpInd s =
      let next := cat (hiByte s.absOperand) (loByte s.absOperand + 1)
      .next (s.afterReads [s.pc, s.pc + 1, s.absOperand, next] (cat (s.answer 3 next) (s.answer 2 s.absOperand))) := by
  have hhi : hiByte s.absOperand = s.answer 1 (s.pc + 1) := hiByte_cat _ _
  have hlo : loByte s.absOperand = s.answer 0 s.pc := loByte_cat _ _
  simp only [exec, execJmpInd, eaInd_eq, hhi, hlo]
  rfl

/-- Settles O41: the closed forms of both jumps. -/
theorem jumpsLoadPc : Obligations.JumpsLoadPc := by
  unfold Obligations.JumpsLoadPc
  exact ⟨⟨rfl, exec_jmpAbs_eq⟩, ⟨rfl, exec_jmpInd_eq⟩⟩

/-! ### Subroutine call and return -/

/-- `s` when JSR has fetched its low target byte and pushed the address of its last byte (R351). -/
def jsrPushed (s : State) : State :=
  pushAll [hiByte (s.pc + 1), loByte (s.pc + 1)] (s.afterReads ([s.pc] ++ s.extra [stackAddr s.sp]) (s.pc + 1))

/-- The high target byte is read from memory as the pushes left it. -/
theorem exec_jsr_eq (s : State) :
    exec .jsr s = .next ((jsrPushed s).afterReads [s.pc + 1]
      (cat ((jsrPushed s).answer 0 (s.pc + 1)) (s.answer 0 s.pc))) := by
  simp only [exec, execJsr, fetch_eq s, extraRead_afterReads, afterReads_sp, afterReads_pc, push_pc]
  rw [fetch_eq]
  rfl

theorem jsrPushed_sp (s : State) : (jsrPushed s).sp = s.sp - 2 := pushAll_sp ..

/-- Settles O42: `exec_jsr_eq`, with both pushes as one update. -/
theorem jsrPushesTheAddressOfItsLastByte : Obligations.JsrPushesTheAddressOfItsLastByte := by
  unfold Obligations.JsrPushesTheAddressOfItsLastByte
  refine ⟨rfl, fun s => ?_⟩
  rw [exec_jsr_eq, ← jsrPushed_sp]
  rfl

/-- A pull after a row of loads, whatever S is by then. -/
theorem pull_afterReads_withSp (s : State) (as : List Addr) (c : Addr) (k : Byte) :
    pull { s.afterReads as c with sp := k } =
      (s.answer as.length (stackAddr (k + 1)), { s.afterReads (as ++ [stackAddr (k + 1)]) c with sp := k + 1 }) :=
  pull_afterReads s as c k s.p

/-- A read under `EXTRA_DUMMY_READS` after a row of loads, whatever S is by then. -/
theorem extraRead_afterReads_withSp (s : State) (as : List Addr) (c a : Addr) (k : Byte) :
    extraRead a { s.afterReads as c with sp := k } = { s.afterReads (as ++ s.extra [a]) c with sp := k } := by
  rw [← extraRead_afterReads]
  unfold extraRead
  split <;> rfl

/-- The same with PC assigned in between. -/
theorem extraRead_afterReads_withPcSp (s : State) (as : List Addr) (c v a : Addr) (k : Byte) :
    extraRead a { s.afterReads as c with pc := v, sp := k } = { s.afterReads (as ++ s.extra [a]) v with sp := k } :=
  extraRead_afterReads_withSp s as v a k

/-- The second pull is one byte further up the stack (20_memory.md R68). -/
theorem exec_rts_eq (s : State) :
    exec .rts s =
      let d := s.extra [s.pc, stackAddr s.sp]
      let lo := s.answer d.length (stackAddr (s.sp + 1))
      let hi := s.answer (d.length + 1) (stackAddr (s.sp + 2))
      .next { s.afterReads (d ++ [stackAddr (s.sp + 1), stackAddr (s.sp + 2)] ++ s.extra [cat hi lo])
          (cat hi lo + 1) with
        sp := s.sp + 2 } := by
  have hsp : s.sp + 1 + 1 = s.sp + 2 := by bv_omega
  have hrow (as : List Addr) (a b : Addr) : as ++ [a] ++ [b] = as ++ [a, b] := List.append_assoc ..
  simp only [exec, execRts, pull_pullDummyReads_eq, pull_afterReads_withSp, hsp, hrow, List.length_append,
    List.length_singleton, extraRead_afterReads_withPcSp]
  rfl

/-- Settles O43: the closed form of RTS. -/
theorem rtsReturnsPastThePulledAddress : Obligations.RtsReturnsPastThePulledAddress := by
  unfold Obligations.RtsReturnsPastThePulledAddress
  exact ⟨rfl, exec_rts_eq⟩

/-! ### Interrupt return and BRK -/

theorem exec_rti_eq (s : State) :
    exec .rti s =
      let d := s.extra [s.pc, stackAddr s.sp]
      let lo := s.answer (d.length + 1) (stackAddr (s.sp + 2))
      let hi := s.answer (d.length + 2) (stackAddr (s.sp + 3))
      .next { s.afterReads (d ++ [stackAddr (s.sp + 1), stackAddr (s.sp + 2), stackAddr (s.sp + 3)]) (cat hi lo) with
        sp := s.sp + 3
        p := pulledP (s.answer d.length (stackAddr (s.sp + 1))) } := by
  simp only [exec, execRti, pullDummyReads_eq, returnFromInterrupt_eq]

/-- Settles O44: the closed form of RTI, whose forcing is `pulledP`. -/
theorem rtiRestoresPAndPc : Obligations.RtiRestoresPAndPc := by
  unfold Obligations.RtiRestoresPAndPc
  exact ⟨rfl, exec_rti_eq⟩

/-- The entry on the software path has no dummy reads (60_exceptions.md R408, R409). -/
theorem exec_brk_eq (s : State) :
    exec .brk s = .next (vectored 0xFFFE (entryPushed (softwarePushedP s.p) (s.afterReads [s.pc] (s.pc + 1)))) := by
  simp only [exec, execBrk, fetch_eq, interruptEntry_eq]
  rfl

/-- Settles O45: the closed form of BRK, which pushes `softwarePushedP`. -/
theorem brkEntersOnTheSoftwarePath : Obligations.BrkEntersOnTheSoftwarePath := by
  unfold Obligations.BrkEntersOnTheSoftwarePath
  exact ⟨rfl, exec_brk_eq⟩

end Sys2Proof.Machine
end

section
/-! SUPPORT. A return with the stack as its call left it (20_memory.md R68; 60_exceptions.md R411): the bytes pushed are
a row of pushes, read back by `read_pushAll`. -/

namespace Sys2Proof.Machine

/-- What JSR leaves on the stack: the address of its last byte, high byte first. -/
theorem jsr_leaves {s t : State} (hwf : s.mem.wf = true) (h : exec .jsr s = .next t) :
    t.sp = s.sp - 2 ∧ t.mem.read (stackAddr s.sp) = hiByte (s.pc + 1) ∧
      t.mem.read (stackAddr (s.sp - 1)) = loByte (s.pc + 1) := by
  have hmem : t.mem = (pushAll [hiByte (s.pc + 1), loByte (s.pc + 1)] s).mem := mem_of_exec_jsr h
  have hstack := fun k hk => read_pushAll hwf (vs := [hiByte (s.pc + 1), loByte (s.pc + 1)]) (k := k) (by simp) hk
  refine ⟨?_, ?_, ?_⟩
  · rw [exec_jsr_eq] at h
    cases h
    exact jsrPushed_sp s
  · have hhi := hstack 0 (by simp)
    rw [BitVec.sub_zero] at hhi
    rw [hmem, hhi]
    rfl
  · rw [hmem]
    exact hstack 1 (by simp)

/-- On the flat RAM host RTS pulls the two bytes above S. -/
theorem exec_rts_of_hostLoads_nil {w : State} (hl : w.hostLoads = []) :
    ∃ u, exec .rts w = .next u ∧ u.sp = w.sp + 2 ∧
      u.pc = cat (w.mem.read (stackAddr (w.sp + 2))) (w.mem.read (stackAddr (w.sp + 1))) + 1 := by
  refine ⟨_, exec_rts_eq w, rfl, ?_⟩
  simp only [answer_of_hostLoads_nil hl, afterReads_pc]

/-- Settles O55: RTS reads the bytes JSR left from the lower one up, and goes one past the address they make. -/
theorem rtsReturnsFromJsr : Obligations.RtsReturnsFromJsr := by
  unfold Obligations.RtsReturnsFromJsr
  intro s hwf
  refine ⟨_, exec_jsr_eq s, fun w hl hsp hhi hlo => ?_⟩
  obtain ⟨htsp, hthi, htlo⟩ := jsr_leaves hwf (exec_jsr_eq s)
  obtain ⟨u, hu, husp, hupc⟩ := exec_rts_of_hostLoads_nil hl
  rw [htsp] at hsp
  have h1 : w.sp + 1 = s.sp - 1 := by bv_omega
  have h2 : w.sp + 2 = s.sp := by bv_omega
  refine ⟨u, hu, ?_, husp.trans h2⟩
  rw [hupc, h1, h2, hhi, hlo, hthi, htlo, cat_hi_lo, pc_two]

/-! ### BRK and RTI -/

/-- The pushes of an entry are a row of pushes (60_exceptions.md R411). -/
theorem entryPushed_eq_pushAll (b : Byte) (s : State) :
    entryPushed b s = { pushAll [hiByte s.pc, loByte s.pc, b] s with p := setFlag s.p .I true } := by
  have h2 : s.sp - 2 = s.sp - 1 - 1 := by bv_omega
  have h3 : s.sp - 3 = s.sp - 1 - 1 - 1 := by bv_omega
  simp only [entryPushed, pushAll, List.foldl, push, busWrite, h2, h3, List.cons_append, List.nil_append]

/-- What BRK leaves on the stack: the address past its padding byte, high byte first, and then P. -/
theorem brk_leaves {s t : State} (hwf : s.mem.wf = true) (h : exec .brk s = .next t) :
    t.sp = s.sp - 3 ∧ ∀ k < 3, t.mem.read (stackAddr (s.sp - BitVec.ofNat 8 k)) =
      [hiByte (s.pc + 1), loByte (s.pc + 1), softwarePushedP s.p].getD k 0 := by
  rw [exec_brk_eq, entryPushed_eq_pushAll] at h
  cases h
  exact ⟨pushAll_sp _ _, fun k hk => read_pushAll (s := s.afterReads [s.pc] (s.pc + 1)) hwf (by simp) hk⟩

/-- On the flat RAM host RTI pulls the three bytes above S. -/
theorem exec_rti_of_hostLoads_nil {w : State} (hl : w.hostLoads = []) :
    ∃ u, exec .rti w = .next u ∧ u.sp = w.sp + 3 ∧ u.p = pulledP (w.mem.read (stackAddr (w.sp + 1))) ∧
      u.pc = cat (w.mem.read (stackAddr (w.sp + 3))) (w.mem.read (stackAddr (w.sp + 2))) := by
  refine ⟨_, exec_rti_eq w, rfl, ?_, ?_⟩
  · simp only [answer_of_hostLoads_nil hl]
  · simp only [answer_of_hostLoads_nil hl, afterReads_pc]

/-- A pull of P after a push of it by software brings back every flag but B and T (10_state.md R44, R46). -/
theorem pulledP_softwarePushedP (p : Byte) : pulledP (softwarePushedP p) = pulledP p := by
  rw [softwarePushedP_eq, pulledP_eq, pulledP_eq]
  apply eq_of_getFlag
  intro f
  simp only [getFlag_setFlag]
  split_ifs <;> rfl

/-- Settles O56: RTI reads the bytes BRK left from the lowest one up; P comes back by `pulledP_softwarePushedP`. -/
theorem rtiReturnsFromBrk : Obligations.RtiReturnsFromBrk := by
  unfold Obligations.RtiReturnsFromBrk
  intro s hwf
  refine ⟨_, exec_brk_eq s, fun w hl hsp hstack => ?_⟩
  obtain ⟨htsp, htstack⟩ := brk_leaves hwf (exec_brk_eq s)
  obtain ⟨u, hu, husp, hup, hupc⟩ := exec_rti_of_hostLoads_nil hl
  rw [htsp] at hsp
  have h1 : w.sp + 1 = s.sp - BitVec.ofNat 8 2 := by bv_omega
  have h2 : w.sp + 2 = s.sp - BitVec.ofNat 8 1 := by bv_omega
  have h3 : w.sp + 3 = s.sp - BitVec.ofNat 8 0 := by bv_omega
  have hread := fun k hk => (hstack k hk).trans (htstack k hk)
  refine ⟨u, hu, ?_, by bv_omega, ?_⟩
  · rw [hupc, h2, h3, hread 0 (by decide), hread 1 (by decide)]
    exact cat_hi_lo _
  · rw [hup, h1, hread 2 (by decide)]
    exact pulledP_softwarePushedP s.p

end Sys2Proof.Machine
end

section
/-! SUPPORT. The flag instructions and NOP (48_flags_misc.md). -/

namespace Sys2Proof.Machine

/-- The flag each flag instruction assigns, and its value (R370 to R376). -/
def flagAssigned : Instr → Option (Flag × Bool)
  | .clc => some (.C, false)
  | .sec => some (.C, true)
  | .cli => some (.I, false)
  | .sei => some (.I, true)
  | .clv => some (.V, false)
  | .cld => some (.D, false)
  | .sed => some (.D, true)
  | _ => none

/-- An assignment of a flag after the optional dummy read. -/
theorem setFlag_implied_eq (f : Flag) (b : Bool) (s : State) :
    { implied s with p := setFlag (implied s).p f b } =
      { s.afterReads (s.extra [s.pc]) s.pc with p := setFlag s.p f b } := by
  rw [implied_eq, afterReads_p]

/-- Every flag instruction assigns its flag after the optional dummy read. -/
theorem exec_eq_flagAssigned {i : Instr} {f : Flag} {b : Bool} (hi : flagAssigned i = some (f, b)) (s : State) :
    exec i s = .next { s.afterReads (s.extra [s.pc]) s.pc with p := setFlag s.p f b } := by
  cases i with
  | clc | sec | cli | sei | clv | cld | sed =>
    cases hi
    exact congrArg Host.Outcome.next (setFlag_implied_eq _ _ s)
  | _ => cases hi

theorem exec_nop_eq (s : State) : exec .nop s = .next (s.afterReads (s.extra [s.pc]) s.pc) :=
  congrArg Host.Outcome.next (implied_eq s)

/-- Settles O46: each row names the flag its instruction assigns (`exec_eq_flagAssigned`); NOP is the optional dummy
read alone. -/
theorem flagInstructionsSetOneFlag : Obligations.FlagInstructionsSetOneFlag := by
  unfold Obligations.FlagInstructionsSetOneFlag
  refine ⟨fun f hf => ?_, rfl, exec_nop_eq⟩
  have hrow : decodeOpcode f.1 = f.2.1 ∧ flagAssigned f.2.1 = some (f.2.2.1, f.2.2.2) := by
    revert f
    decide
  obtain ⟨hdecode, hflag⟩ := hrow
  exact ⟨hdecode, exec_eq_flagAssigned hflag⟩

end Sys2Proof.Machine
end

section
/-! SUPPORT. The host's calls and `reset()` (60_exceptions.md R402; 70_reset_and_hazards.md R450 to R455), and that
every step goes on (60_exceptions.md R400). -/

namespace Sys2Proof.Machine

/-! ### Every step goes on -/

/-- What ends like a next state is a next state. -/
theorem EndAlike.exists_next {R : State → State → Prop} {s : State} {o : Host.Outcome State Fault Refusal}
    (h : EndAlike R (.next s) o) : ∃ t, o = .next t := by
  cases o with
  | next t => exact ⟨t, rfl⟩
  | fault r => exact h.elim
  | refused r => exact h.elim

theorem exec_exists_next (i : Instr) (s : State) : ∃ t, exec i s = .next t := (exec_ends i s).exists_next

/-- Outside `run()` no iteration runs (60_exceptions.md R418). -/
theorem step_of_not_running {s : State} (hrun : s.running = false) : step s = .next s := by
  simp [step, hrun]

/-- Settles O9: outside `run()`, at a halt request, and with an instruction to run, whose next state is the one of
`exec_ends`. -/
theorem everyStepAnswersANextState : Obligations.EveryStepAnswersANextState := by
  unfold Obligations.EveryStepAnswersANextState
  refine ⟨fun s => ?_, exec_exists_next⟩
  cases hrun : s.running with
  | false => exact ⟨s, step_of_not_running hrun⟩
  | true =>
    cases hhalt : s.haltReq with
    | true => exact ⟨stopRun s, step_of_haltReq hrun hhalt⟩
    | false =>
      rw [step_of_running hrun hhalt rfl]
      exact exec_exists_next _ _

/-! ### Host calls -/

theorem hostCall_reset_of_not_running {s : State} (hrun : s.running = false) :
    hostCall .reset s = .next (resetSequence s) := by
  simp [hostCall, hrun]

theorem hostCall_run_of_not_running {s : State} (hrun : s.running = false) :
    hostCall .run s = .next { s with running := true } := by
  simp [hostCall, hrun]

/-- Inside `run()` the host may call neither `reset()` nor `run()` (70_reset_and_hazards.md R450). -/
theorem hostCall_refused_of_running {s : State} (hrun : s.running = true) :
    hostCall .reset s = .refused .resetDuringRun ∧ hostCall .run s = .refused .runDuringRun := by
  simp [hostCall, hrun]

/-- Settles O4: `signal()` and `halt()` do not look at `running`; the other two calls and the step are split on it. -/
theorem hostCallsHaveTheirEffects : Obligations.HostCallsHaveTheirEffects := by
  unfold Obligations.HostCallsHaveTheirEffects
  intro s
  exact ⟨fun b => ⟨rfl, rfl⟩, rfl, fun hrun => ⟨hostCall_run_of_not_running hrun, step_of_not_running hrun⟩,
    hostCall_refused_of_running⟩

/-! ### `reset()` -/

/-- One lowering of S after a row of loads (70_reset_and_hazards.md R452). -/
theorem lowerStack_afterReads (s : State) (as : List Addr) (c : Addr) (k : Byte) :
    lowerStack { s.afterReads as c with sp := k } =
      { s.afterReads (as ++ s.extra [stackAddr k]) c with sp := k - 1 } := by
  rw [lowerStack, extraRead_afterReads_withSp]

theorem extra_append (s : State) (as bs : List Addr) : s.extra as ++ s.extra bs = s.extra (as ++ bs) := by
  unfold State.extra
  split <;> rfl

theorem resetSequence_of_push {s : State} (hmode : s.config.resetStackMode = .push) :
    resetSequence s = interruptEntry resetVector .hardware s := by
  rw [resetSequence, hmode]

theorem resetSequence_of_noWrite {s : State} (hmode : s.config.resetStackMode = .noWrite) :
    resetSequence s =
      loadVector resetVector (lowerStack (lowerStack (lowerStack (entryDummyReads .hardware s)))) := by
  rw [resetSequence, hmode]

/-- The loads of `NoWrite` mode before the vector (70_reset_and_hazards.md R452). -/
theorem lowerStack_thrice_eq (s : State) :
    lowerStack (lowerStack (lowerStack (entryDummyReads .hardware s))) =
      { s.afterReads (s.extra [s.pc, s.pc, stackAddr s.sp, stackAddr (s.sp - 1), stackAddr (s.sp - 2)]) s.pc with
        sp := s.sp - 3 } := by
  have h2 : s.sp - 1 - 1 = s.sp - 2 := by bv_omega
  have h3 : s.sp - 2 - 1 = s.sp - 3 := by bv_omega
  have hfirst : lowerStack (s.afterReads (s.extra [s.pc, s.pc]) s.pc) =
      { s.afterReads (s.extra [s.pc, s.pc] ++ s.extra [stackAddr s.sp]) s.pc with sp := s.sp - 1 } :=
    lowerStack_afterReads s (s.extra [s.pc, s.pc]) s.pc s.sp
  rw [entryDummyReads_hardware, hfirst, lowerStack_afterReads, h2, lowerStack_afterReads, h3]
  simp only [extra_append, List.cons_append, List.nil_append]

/-- Settles O3: Push mode is the interrupt entry at another vector; NoWrite mode lowers S thrice and loads the
vector. -/
theorem resetRunsItsSequenceInBothModes : Obligations.ResetRunsItsSequenceInBothModes := by
  unfold Obligations.ResetRunsItsSequenceInBothModes
  intro s hrun
  rw [hostCall_reset_of_not_running hrun]
  refine ⟨fun hmode => ?_, fun hmode => ?_⟩
  · rw [resetSequence_of_push hmode, interruptEntry_hardware_eq]
    rfl
  · rw [resetSequence_of_noWrite hmode, lowerStack_thrice_eq, loadVector_eq]
    rfl

/-- Settles O2: both calls computed from the power-on state. -/
theorem resetStateIsPowerOnThenBoot : Obligations.ResetStateIsPowerOnThenBoot := by
  unfold Obligations.ResetStateIsPowerOnThenBoot
  exact ⟨rfl, rfl⟩

end Sys2Proof.Machine
end

section
/-! SUPPORT. How many bus accesses an instruction issues (70_reset_and_hazards.md R464): counted along the
instruction, then compared with its row of the table. The split over the instructions is made once, in `exec_counted`. -/

namespace Sys2Proof.Machine

/-! ### Accesses of a trace -/

theorem accesses_append (es fs : List Event) : accesses (es ++ fs) = accesses es + accesses fs := by
  induction es with
  | nil => exact (Nat.zero_add _).symm
  | cons e es ih =>
    cases e with
    | read | write =>
      simp only [List.cons_append, accesses, ih]
      omega
    | report => exact ih

theorem accesses_reverse (es : List Event) : accesses es.reverse = accesses es := by
  induction es with
  | nil => rfl
  | cons e es ih =>
    rw [List.reverse_cons, accesses_append, ih]
    cases e <;> rfl

theorem accesses_readEvents (s : State) (k : Nat) (as : List Addr) : accesses (s.readEvents k as) = as.length := by
  induction as generalizing k with
  | nil => rfl
  | cons a as ih => exact congrArg (· + 1) (ih (k + 1))

theorem accesses_afterReads (s : State) (as : List Addr) (c : Addr) :
    accesses (s.afterReads as c).log = accesses s.log + as.length := by
  rw [afterReads_log, accesses_append, accesses_reverse, accesses_readEvents, Nat.add_comm]

/-! ### Accesses between two states -/

/-- From `s` to `t` there are `n` bus accesses, and `e` more under `EXTRA_DUMMY_READS`. -/
structure Issues (s : State) (n e : Nat) (t : State) : Prop where
  config : t.config = s.config
  count : accesses t.log = accesses s.log + n + (if s.config.extraDummyReads then e else 0)

section
variable {s t : State} {n e : Nat}

theorem Issues.refl (s : State) : Issues s 0 0 s := ⟨rfl, by simp⟩

/-- A register, P, PC, memory or the waiting answers may be anything. -/
theorem Issues.withData (h : Issues s n e t) {a x y sp p : Byte} {pc : Addr} {mem : Memory}
    {loads : List (Option Byte)} :
    Issues s n e { t with a := a, x := x, y := y, sp := sp, p := p, pc := pc, mem := mem, hostLoads := loads } :=
  ⟨h.config, h.count⟩

theorem Issues.afterReads (h : Issues s n e t) (as : List Addr) (c : Addr) :
    Issues s (n + as.length) e (t.afterReads as c) := by
  refine ⟨h.config, ?_⟩
  rw [accesses_afterReads, h.count]
  omega

theorem Issues.busRead (h : Issues s n e t) (a : Addr) : Issues s (n + 1) e (busRead a t).2 := by
  rw [busRead_eq]
  exact h.afterReads [a] t.pc

theorem Issues.fetch (h : Issues s n e t) : Issues s (n + 1) e (fetch t).2 := (h.busRead t.pc).withData

theorem Issues.pull (h : Issues s n e t) : Issues s (n + 1) e (pull t).2 := h.withData.busRead _

theorem Issues.busWrite (h : Issues s n e t) (a : Addr) (v : Byte) : Issues s (n + 1) e (busWrite a v t) := by
  refine ⟨h.config, ?_⟩
  rw [busWrite_log, accesses, h.count]
  omega

theorem Issues.push (h : Issues s n e t) (v : Byte) : Issues s (n + 1) e (push v t) := (h.busWrite _ v).withData

theorem Issues.extraRead (h : Issues s n e t) (a : Addr) : Issues s n (e + 1) (extraRead a t) := by
  rw [extraRead_eq, State.extra, h.config]
  refine ⟨h.config, ?_⟩
  cases hextra : s.config.extraDummyReads with
  | false => simpa [hextra] using (h.afterReads [] t.pc).count
  | true => simpa [hextra, Nat.add_right_comm, ← Nat.add_assoc] using (h.afterReads [a] t.pc).count

theorem Issues.applyOp (h : Issues s n e t) (o : Operation) (v : Byte) (slot : RegName) :
    Issues s n e (applyOp o v slot t) := by
  cases slot <;> exact h.withData

/-- An entry on the software path pushes three bytes and reads the vector's two (60_exceptions.md R408). -/
theorem Issues.softwareEntry (h : Issues s n e t) (vec : Addr) :
    Issues s (n + 5) e (interruptEntry vec .software t) :=
  (((((h.push _).push _).push _).withData.busRead vec).busRead (vec + 1)).withData

theorem implied_issues (s : State) : Issues s 0 1 (implied s) := (Issues.refl s).extraRead s.pc

theorem pullDummyReads_issues (s : State) : Issues s 0 2 (pullDummyReads s) :=
  ((Issues.refl s).extraRead _).extraRead _

/-! ### Instructions with a data access -/

/-- The read procedure of every mode. -/
theorem applied_issues (o : Operation) (slot : RegName) (m : Mode) (s : State) :
    Issues s ((operandAccess .read m s).1.length + 1) 0 (s.applied o slot m) := by
  have hreads := (Issues.refl s).afterReads ((operandAccess .read m s).1 ++ [s.ea .read m]) (s.pcAfter m)
  rw [List.length_append, List.length_singleton, Nat.zero_add] at hreads
  exact hreads.applyOp o _ slot

theorem stored_issues (m : Mode) (v : Byte) (s : State) :
    Issues s ((operandAccess .write m s).1.length + 1) 0 (s.stored m v) := by
  have hreads := (Issues.refl s).afterReads (operandAccess .write m s).1 (s.pcAfter m)
  rw [Nat.zero_add] at hreads
  exact hreads.busWrite (s.ea .write m) v

theorem modifiedBy_issues (o : Operation) (m : Mode) (s : State) :
    Issues s ((operandAccess .modify m s).1.length + 3) 0 (s.modifiedBy o m) := by
  have hreads := (Issues.refl s).afterReads ((operandAccess .modify m s).1 ++ [s.ea .modify m]) (s.pcAfter m)
  rw [List.length_append, List.length_singleton, Nat.zero_add] at hreads
  exact ((hreads.busWrite (s.ea .modify m) (s.operand .modify m)).busWrite (s.ea .modify m) _).withData

end

/-- The modes whose index addition may cross a page (41_addressing_modes.md R153, R160). -/
def indexedModes : List Mode := [.abx, .aby, .izy]

/-- The loads of a mode before its data access, but for the one at the wrong-page address. -/
def operandLoads : Mode → Nat
  | .zp => 1
  | .zpx | .zpy | .abs | .abx | .aby => 2
  | .izy => 3
  | .izx => 4
  | .imm | .imp | .acc | .rel | .ind => 0

theorem operandAccess_length (kind : AccessKind) (m : Mode) (s : State) :
    (operandAccess kind m s).1.length =
      operandLoads m + (if m ∈ indexedModes ∧ (s.pageCross m = true ∨ kind ≠ .read) then 1 else 0) := by
  cases m with
  | abx | aby | izy =>
    simp only [operandAccess, indexedAccess, State.pageCross, List.length_append]
    split <;> simp_all [indexedModes, operandLoads]
  | _ => rfl

/-! ### The table -/

/-- `i` has run from `s` to `t`, with the accesses the table gives it. -/
def Counted (i : Instr) (s t : State) : Prop := accesses t.log + 1 = accesses s.log + accessCount i s

section
variable {i : Instr} {s t : State} {n e d : Nat} {kind : AccessKind}

/-- An instruction whose count depends on `EXTRA_DUMMY_READS` alone. -/
theorem Issues.counted (h : Issues s n e t) (htable : accessTable i = (n + 1, n + e + 1) := by rfl)
    (hcross : i ∉ crossCounted := by decide) (hbranch : ∀ p, branchCondition i p = none := by exact fun _ => rfl) :
    Counted i s t := by
  simp only [Counted, accessCount, h.count, htable, hcross, hbranch, false_and, if_false]
  split
  · omega
  · omega

/-- The row of an instruction with a data access of a kind, of `d` accesses: a page cross is counted where the access at
the wrong-page address depends on it. -/
abbrev HasDataRow (i : Instr) (kind : AccessKind) (d : Nat) : Prop :=
  let n := operandLoads i.mode + (if i.mode ∈ indexedModes ∧ kind ≠ .read then 1 else 0) + d + 1
  accessTable i = (n, n) ∧ (i ∈ crossCounted ↔ i.mode ∈ indexedModes ∧ kind = .read)

theorem Issues.counted_of_dataRow (h : Issues s ((operandAccess kind i.mode s).1.length + d) 0 t)
    (hrow : HasDataRow i kind d := by decide) (hbranch : ∀ p, branchCondition i p = none := by exact fun _ => rfl) :
    Counted i s t := by
  obtain ⟨htable, hcross⟩ := hrow
  simp only [Counted, accessCount, h.count, htable, hcross, hbranch, operandAccess_length]
  by_cases hread : kind = .read
  · simp only [hread, ne_eq, not_true_eq_false, and_false, or_false, and_true, if_false, ite_self]
    omega
  · simp only [hread, ne_eq, not_false_eq_true, or_true, and_true, and_false, false_and, if_false, ite_self]
    omega

/-- A branch not taken fetches its offset; a taken one issues the loads of `takenReads`. -/
theorem branch_counted {c : Bool} (hc : branchCondition i s.p = some c) (htable : accessTable i = (2, 2) := by rfl)
    (hcross : i ∉ crossCounted := by decide) :
    Counted i s (if c then s.afterReads s.takenReads s.branchTarget else s.afterReads [s.pc] (s.pc + 1)) := by
  simp only [Counted, accessCount, htable, hcross, hc, ite_self, false_and, if_false]
  cases c with
  | false =>
    rw [if_neg Bool.false_ne_true, accesses_afterReads]
    rfl
  | true =>
    have htaken : 1 ≤ s.takenReads.length := by simp [State.takenReads]
    simp only [if_true, accesses_afterReads]
    omega

end

/-- Every instruction, by its kind of access. -/
theorem exec_counted (i : Instr) (s : State) : EndAlike (Counted i) (.next s) (exec i s) := by
  cases i with
  | adcImm | adcZp | adcZpx | adcAbs | adcAbx | adcAby | adcIzx | adcIzy
  | sbcImm | sbcZp | sbcZpx | sbcAbs | sbcAbx | sbcAby | sbcIzx | sbcIzy
  | andImm | andZp | andZpx | andAbs | andAbx | andAby | andIzx | andIzy
  | oraImm | oraZp | oraZpx | oraAbs | oraAbx | oraAby | oraIzx | oraIzy
  | eorImm | eorZp | eorZpx | eorAbs | eorAbx | eorAby | eorIzx | eorIzy | bitZp | bitAbs
  | cmpImm | cmpZp | cmpZpx | cmpAbs | cmpAbx | cmpAby | cmpIzx | cmpIzy
  | cpxImm | cpxZp | cpxAbs | cpyImm | cpyZp | cpyAbs
  | ldaImm | ldaZp | ldaZpx | ldaAbs | ldaAbx | ldaAby | ldaIzx | ldaIzy
  | ldxImm | ldxZp | ldxZpy | ldxAbs | ldxAby | ldyImm | ldyZp | ldyZpx | ldyAbs | ldyAbx =>
    rw [exec_read_eq rfl]
    exact (applied_issues _ _ _ s).counted_of_dataRow
  | staZp | staZpx | staAbs | staAbx | staAby | staIzx | staIzy | stxZp | stxZpy | stxAbs | styZp | styZpx | styAbs =>
    rw [exec_eq_stored rfl]
    exact (stored_issues _ _ s).counted_of_dataRow
  | aslZp | aslZpx | aslAbs | aslAbx | lsrZp | lsrZpx | lsrAbs | lsrAbx | rolZp | rolZpx | rolAbs | rolAbx
  | rorZp | rorZpx | rorAbs | rorAbx | incZp | incZpx | incAbs | incAbx | decZp | decZpx | decAbs | decAbx =>
    rw [exec_eq_modifiedBy rfl]
    exact (modifiedBy_issues _ _ s).counted_of_dataRow
  | bcc | bcs | beq | bne | bmi | bpl | bvc | bvs =>
    rw [exec_branch_eq rfl]
    exact branch_counted rfl
  | aslAcc | lsrAcc | rolAcc | rorAcc => exact ((Issues.refl s).applyOp _ _ _).counted
  | tax | tay | tsx | txa | tya | inx | iny | dex | dey => exact ((implied_issues s).applyOp _ _ _).counted
  | txs | clc | sec | cli | sei | clv | cld | sed => exact (implied_issues s).withData.counted
  | nop => exact (implied_issues s).counted
  | pha | php => exact ((implied_issues s).push _).counted
  | pla => exact ((pullDummyReads_issues s).pull.applyOp _ _ _).counted
  | plp => exact (pullDummyReads_issues s).pull.withData.counted
  | jmpAbs =>
    rw [exec_jmpAbs_eq]
    exact ((Issues.refl s).afterReads _ _).counted
  | jmpInd =>
    rw [exec_jmpInd_eq]
    exact ((Issues.refl s).afterReads _ _).counted
  | jsr =>
    have hread := (Issues.refl s).fetch.extraRead (stackAddr s.sp)
    exact ((hread.push _).push _).fetch.withData.counted
  | rts =>
    have hpulled := (pullDummyReads_issues s).pull.pull
    exact (hpulled.withData.extraRead _).withData.counted
  | rti =>
    have hpulled := (pullDummyReads_issues s).pull
    exact hpulled.withData.pull.pull.withData.counted
  | brk => exact ((Issues.refl s).fetch.softwareEntry irqVector).counted
  | unmapped op =>
    have hreport : Issues s 0 0 (report op (s.pc - 1) s) := ⟨rfl, by simp [accesses]⟩
    exact hreport.counted (hcross := by simp [crossCounted])

/-- Settles O17: the count of `exec_counted`, for the next state there is. -/
theorem accessCountsAreThoseOfTheTable : Obligations.AccessCountsAreThoseOfTheTable := by
  unfold Obligations.AccessCountsAreThoseOfTheTable
  intro i s t h
  have hcounted := exec_counted i s
  rw [h] at hcounted
  exact hcounted

end Sys2Proof.Machine
end
